-- ==== Sys2Proof/Word.lean ====
section
/-! DEFINITION. The words the VH2406's lines and counter carry. -/

namespace Sys2Proof

/-- A data byte of a symbol, and a byte of a frame (spec/01, "Symbols and the Pair Handshake"). -/
abbrev Byte := BitVec 8

/-- A ten-bit symbol: D0 to D7 data, D8 start marker, D9 parity (R186). -/
abbrev Symbol := BitVec 10

/-- A value of the 24-bit tick counter; sums and differences wrap modulo 16,777,216 (R22, R24). -/
abbrev Stamp := BitVec 24

/-- The bytes of a frame from the kind byte to the check byte (R186). -/
abbrev Frame := List Byte

end Sys2Proof
end

