-- ==== Sys2Proof/Syntax.lean ====
section
/-! DEFINITION. The commands of the VH2406: one constructor per row of spec/opcode_table.json. A COMMAND row carries the
payload bytes that follow the command code, so that a wrong length (R168) and an out-of-range field (R169) are operands like
any other. -/

namespace Sys2Proof

inductive Instr where
  /-- TICK (R22): The Timebase counter increments by one at the end of every 100 ms tick, wrapping from 16,777,215 to 0. -/
  | tick
  /-- FIELD_SYMBOL_ARRIVAL (R4): A symbol arrives on the field receive pair and the field assembler handles it according to its state, start marker, position and parity. -/
  | fieldSymbolArrival (symbol : Symbol)
  /-- FIELD_INTER_SYMBOL_TIMEOUT (R7): 20 ms pass in RECEIVING without an arrival; the partial frame is discarded, FIELD_TIMEOUT is posted and the assembler returns to IDLE. -/
  | fieldInterSymbolTimeout
  /-- FIELD_SYMBOL_ACKNOWLEDGED (R17): FTACK rises for the symbol being sent; the field transmitter lowers FTSTB and continues the frame or, after the last symbol, returns to IDLE. -/
  | fieldSymbolAcknowledged
  /-- FIELD_ALLOWANCE_EXPIRY (R18): A field symbol is not acknowledged within 200 ms; the frame is abandoned, FIELD_STALL is posted and the transmitter returns to IDLE. -/
  | fieldAllowanceExpiry
  /-- CLASSIFIER_TAKE_HEAD (R47): The Intake Classifier takes a finishable head of the intake queue, updates the probe entry, converts and delivers the sample, and forwards or absorbs the frame. -/
  | classifierTakeHead
  /-- SILENCE_EXPIRY (R41): A probe's silence deadline is reached; the probe becomes STALE, PROBE_LOST is posted and any contribution ends. -/
  | silenceExpiry (address : Byte)
  /-- SLOT_EXPIRY (R83): An air-window slot's expiry is reached; the slot becomes EMPTY and the zone is evaluated. -/
  | slotExpiry (zone : Fin 24) (slot : Fin 8)
  /-- TREND_EXPIRY (R102): A zone's trend deadline is reached; the slope and start value are updated, the deadline is re-armed and the zone is evaluated. -/
  | trendExpiry (zone : Fin 24)
  /-- PERSISTENCE_EXPIRY (R122): A zone's persistence deadline is reached and the zone enters its stored candidate with cause PERSISTENCE. -/
  | persistenceExpiry (zone : Fin 24)
  /-- BLIND_EXPIRY (R123): A zone's blind deadline is reached and the zone becomes BLIND with cause BLIND. -/
  | blindExpiry (zone : Fin 24)
  /-- WET_LEVEL_CHANGE (R135): A wet input pin changes level, starting or cancelling a qualification. -/
  | wetLevelChange (input : Fin 4) (high : Bool)
  /-- QUALIFICATION_EXPIRY (R136): A wet input's qualification deadline is reached; the change is taken, the zone's wet flag is recomputed and WET may be posted. -/
  | qualificationExpiry (input : Fin 4)
  /-- PERIOD_BOUNDARY (R142): A demand output's boundary deadline is reached; a new period starts with the period, duty and basis computed anew. -/
  | periodBoundary (output : Fin 4)
  /-- DUTY_END (R144): The elapsed time of a period reaches the duty in force and the demand output goes from active to inactive. -/
  | dutyEnd (output : Fin 4)
  /-- STATION_SYMBOL_ARRIVAL (R151): A symbol arrives on the station receive pair and the station assembler handles it as the field assembler would. -/
  | stationSymbolArrival (symbol : Symbol)
  /-- STATION_INTER_SYMBOL_TIMEOUT (R151): 20 ms pass in RECEIVING on the station assembler without an arrival; the frame is discarded and STATION_TIMEOUT is posted. -/
  | stationInterSymbolTimeout
  /-- STATION_SYMBOL_ACKNOWLEDGED (R160): STACK rises for the symbol being sent; the station transmitter continues the frame or, after the last symbol, returns to IDLE and the arbiter chooses again. -/
  | stationSymbolAcknowledged
  /-- STATION_ALLOWANCE_EXPIRY (R160): A station symbol is not acknowledged within 200 ms; the frame is abandoned, STATION_STALL is posted and the arbiter chooses again. -/
  | stationAllowanceExpiry
  /-- POWER_ON (R176): Power-on ends and the part takes the full power-on state, with the counter at 0 and the straps read. -/
  | powerOn (straps : BitVec 4)
  /-- PIN_RESET (R177): RESETN goes low and the part is held in reset, with every line and output at its reset level. -/
  | pinReset
  /-- PIN_RESET_RELEASE (R177): RESETN rises and the part takes the state given at the end of power-on, with the straps read again. -/
  | pinResetRelease (straps : BitVec 4)
  /-- UNKNOWN_COMMAND (R167): A COMMAND with an empty payload or an unlisted code is refused with LENGTH or UNKNOWN. -/
  | unknownCommand (payload : List Byte)
  /-- READ_TIME (R29): Returns the tick counter value at execution. -/
  | readTime (fields : List Byte)
  /-- RESTART_EVALUATION (R172): Discards verdicts, notices, sticky flags, probe runtimes and zone windows, and makes enabled zones BLIND and evaluates them. -/
  | restartEvaluation (fields : List Byte)
  /-- RESTART_FULL (R174): Returns the part to its power-on state except the tick counter and own address, and answers DONE. -/
  | restartFull (fields : List Byte)
  /-- LOAD_PROBE (R35): Writes or replaces a probe entry's loaded part and resets its runtime part to UNSEEN. -/
  | loadProbe (fields : List Byte)
  /-- DROP_PROBE (R37): Removes a probe entry, clears its PROBE_LOST subjects and evaluates its zone. -/
  | dropProbe (fields : List Byte)
  /-- READ_PROBE (R38): Reports a probe entry's loaded and runtime parts. -/
  | readProbe (fields : List Byte)
  /-- LIST_PROBES (R39): Reports the total entry count and up to 12 addresses from a start index. -/
  | listProbes (fields : List Byte)
  /-- SET_ZONE (R97): Writes a zone's A, I, L and G, recomputing slot expiries and restarting the trend where they change. -/
  | setZone (fields : List Byte)
  /-- STAGE_THRESHOLDS (R113): Stores a zone's staged threshold set for take-up at its next evaluation. -/
  | stageThresholds (fields : List Byte)
  /-- ENABLE_ZONE (R124): Enables a DORMANT zone, makes it BLIND with cause ENABLE and evaluates it. -/
  | enableZone (fields : List Byte)
  /-- DISABLE_ZONE (R125): Makes an enabled zone DORMANT, disarms its deadlines and empties its window. -/
  | disableZone (fields : List Byte)
  /-- READ_ZONE (R109): Reports a zone's configuration, thresholds, state, aggregates, trend, wet flag and deadlines. -/
  | readZone (fields : List Byte)
  /-- READ_WINDOW (R89): Reports a zone's window slots, TOP, A and D. -/
  | readWindow (fields : List Byte)
  /-- CLEAR_WINDOW (R88): Empties an enabled zone's window and evaluates the zone. -/
  | clearWindow (fields : List Byte)
  /-- CURVE_BEGIN (R56): Starts a new curve load in the staging buffer with base, step and n. -/
  | curveBegin (fields : List Byte)
  /-- CURVE_POINTS (R57): Writes 1 to 16 knot values at the expected index of the staging buffer. -/
  | curvePoints (fields : List Byte)
  /-- CURVE_COMMIT (R58): Puts a full, strictly increasing staged curve in force. -/
  | curveCommit (fields : List Byte)
  /-- RESTORE_CURVE (R59): Puts the built-in curve in force. -/
  | restoreCurve (fields : List Byte)
  /-- READ_CURVE (R61): Reports the curve in force from a start index, together with the staging state. -/
  | readCurve (fields : List Byte)
  /-- SET_ARITHMETIC (R64): Writes the rounding mode and the four masks, and sets or clears the deferred marks. -/
  | setArithmetic (fields : List Byte)
  /-- READ_ARITHMETIC (R65): Reports the mode, masks, sticky flags and deferred marks. -/
  | readArithmetic (fields : List Byte)
  /-- CLEAR_STICKY (R66): Clears all four sticky flags and deferred marks. -/
  | clearSticky (fields : List Byte)
  /-- SET_OUTPUT (R145): Writes a demand output's configuration, starting a period at enabling and stopping it at disabling. -/
  | setOutput (fields : List Byte)
  /-- SET_OUTPUT_MODE (R146): Writes a demand output's mode and manual duty for its next boundary. -/
  | setOutputMode (fields : List Byte)
  /-- READ_OUTPUT (R147): Reports a demand output's configuration, runtime, level, the alert set and the ALERT line. -/
  | readOutput (fields : List Byte)
  /-- SET_WET_INPUT (R138): Writes a wet input's zone, wet level, Q and selection, re-deriving its state and the affected zones' wet flags. -/
  | setWetInput (fields : List Byte)
  /-- READ_WET_INPUTS (R139): Reports all four wet-input records and the set of wet zones. -/
  | readWetInputs (fields : List Byte)
  /-- SET_ALERT (R150): Replaces the alert set and re-evaluates the ALERT line. -/
  | setAlert (fields : List Byte)
  /-- READ_NOTICES (R182): Reports the pending sets and makes each armed set equal to its pending set. -/
  | readNotices (fields : List Byte)
  /-- PEEK_NOTICES (R182): Reports the pending sets without changing anything. -/
  | peekNotices (fields : List Byte)
  /-- ACKNOWLEDGE_NOTICES (R183): Removes every armed subject from its pending set and empties the armed sets. -/
  | acknowledgeNotices (fields : List Byte)
  /-- FIELD_RECEIVE_STROBE_FALL (R2): FRSTB falls on the field receive pair; the part lowers FRACK and becomes ready to take the next rising strobe as an arrival. -/
  | fieldReceiveStrobeFall
  /-- STATION_RECEIVE_STROBE_FALL (R151): SRSTB falls on the station receive pair; the part lowers SRACK and becomes ready for the next arrival. -/
  | stationReceiveStrobeFall
  /-- FIELD_TRANSMIT_ACK_FALL (R17): FTACK falls on the field transmit pair, and the field transmitter, waiting to present its next symbol, places it on FTD0–FTD9 and raises FTSTB. -/
  | fieldTransmitAckFall
  /-- STATION_TRANSMIT_ACK_FALL (R160): STACK falls on the station transmit pair, and the station transmitter presents its next symbol by raising STSTB. -/
  | stationTransmitAckFall
  deriving DecidableEq, Repr

end Sys2Proof
end

