-- ==== Sys2Proof/Decode.lean ====
section
/-! DEFINITION. The table gives no row any bits, so no word spells a command. What does spell a command on the lines is a
COMMAND payload: `Instr.ofPayload` reads one into its row and `Instr.payload` writes one (R166 to R168, R188). -/

namespace Sys2Proof

/-- The command a word of the table's bits spells: none, since no row has bits. -/
def decodeTableWord (_nbits _w : Nat) : Option Instr := none

/-- The row of a COMMAND payload. RESTART and the notice read have one code for two rows each: the scope FULL and the form READ
choose the second, and every other payload of the code is written as the first (notes/assumptions/14.md). -/
def Instr.ofPayload : List Byte → Instr
  | [] => .unknownCommand []
  | code :: fields =>
    match code.toNat with
    | 1 => .readTime fields
    | 2 => if fields = [2#8] then .restartFull fields else .restartEvaluation fields
    | 3 => .loadProbe fields
    | 4 => .dropProbe fields
    | 5 => .readProbe fields
    | 6 => .listProbes fields
    | 7 => .setZone fields
    | 8 => .stageThresholds fields
    | 9 => .enableZone fields
    | 10 => .disableZone fields
    | 11 => .readZone fields
    | 12 => .readWindow fields
    | 13 => .clearWindow fields
    | 14 => .curveBegin fields
    | 15 => .curvePoints fields
    | 16 => .curveCommit fields
    | 17 => .restoreCurve fields
    | 18 => .readCurve fields
    | 19 => .setArithmetic fields
    | 20 => .readArithmetic fields
    | 21 => .clearSticky fields
    | 22 => .setOutput fields
    | 23 => .setOutputMode fields
    | 24 => .readOutput fields
    | 25 => .setWetInput fields
    | 26 => .readWetInputs fields
    | 27 => .setAlert fields
    | 28 => if fields = [1#8] then .readNotices fields else .peekNotices fields
    | 29 => .acknowledgeNotices fields
    | _ => .unknownCommand (code :: fields)

/-- The payload of the COMMAND frame that a row stands for; the rows that are no command have none (R188). -/
def Instr.payload : Instr → Option (List Byte)
  | .unknownCommand p => some p
  | .readTime f => some (1 :: f)
  | .restartEvaluation f => some (2 :: f)
  | .restartFull f => some (2 :: f)
  | .loadProbe f => some (3 :: f)
  | .dropProbe f => some (4 :: f)
  | .readProbe f => some (5 :: f)
  | .listProbes f => some (6 :: f)
  | .setZone f => some (7 :: f)
  | .stageThresholds f => some (8 :: f)
  | .enableZone f => some (9 :: f)
  | .disableZone f => some (10 :: f)
  | .readZone f => some (11 :: f)
  | .readWindow f => some (12 :: f)
  | .clearWindow f => some (13 :: f)
  | .curveBegin f => some (14 :: f)
  | .curvePoints f => some (15 :: f)
  | .curveCommit f => some (16 :: f)
  | .restoreCurve f => some (17 :: f)
  | .readCurve f => some (18 :: f)
  | .setArithmetic f => some (19 :: f)
  | .readArithmetic f => some (20 :: f)
  | .clearSticky f => some (21 :: f)
  | .setOutput f => some (22 :: f)
  | .setOutputMode f => some (23 :: f)
  | .readOutput f => some (24 :: f)
  | .setWetInput f => some (25 :: f)
  | .readWetInputs f => some (26 :: f)
  | .setAlert f => some (27 :: f)
  | .readNotices f => some (28 :: f)
  | .peekNotices f => some (28 :: f)
  | .acknowledgeNotices f => some (29 :: f)
  | .tick | .fieldSymbolArrival _ | .fieldInterSymbolTimeout | .fieldSymbolAcknowledged | .fieldAllowanceExpiry
  | .classifierTakeHead | .silenceExpiry _ | .slotExpiry _ _ | .trendExpiry _ | .persistenceExpiry _ | .blindExpiry _
  | .wetLevelChange _ _ | .qualificationExpiry _ | .periodBoundary _ | .dutyEnd _ | .stationSymbolArrival _
  | .stationInterSymbolTimeout | .stationSymbolAcknowledged | .stationAllowanceExpiry | .powerOn _ | .pinReset
  | .pinResetRelease _ | .fieldReceiveStrobeFall | .stationReceiveStrobeFall | .fieldTransmitAckFall
  | .stationTransmitAckFall => none

end Sys2Proof
end

