-- ==== Sys2Proof/Config.lean ====
section
/-! DEFINITION. The capacities that 00_scope.md calls fixed ("Capacities"). The spec leaves no value of an event open, so
there is no free value here. -/

namespace Sys2Proof

/-- Places in the intake queue (R13). -/
abbrev Config.intakeRoom : Nat := 6

/-- Places in the field-out queue (R15). -/
abbrev Config.fieldOutRoom : Nat := 4

/-- Places in the forward queue (R155). -/
abbrev Config.forwardRoom : Nat := 8

/-- Entries of the Probe Table (R33). -/
abbrev Config.probeRoom : Nat := 96

/-- The longest payload of a frame (R5, R186). -/
abbrev Config.longestPayload : Nat := 60

/-- Damaged frames that make a probe FAULTY (R42). -/
abbrev Config.faultyCount : Nat := 3

/-- Verdicts sent in a row before a waiting forwarded frame (R158). -/
abbrev Config.verdictRun : Nat := 4

/-- Half a turn of the tick counter, the bound of the half-range test (R25). -/
abbrev Config.halfTurn : Nat := 8388608

/-- The longest duration a deadline is formed with (R24). -/
abbrev Config.longestDuration : Nat := 65535

end Sys2Proof
end

