-- ==== Sys2Proof/Machine/Records.lean ====
section
/-! DEFINITION. The records the VH2406's blocks hold, one type per thing the spec names. -/

namespace Sys2Proof.Machine

/-! ## Deadlines (spec/02) -/

/-- An armed deadline: the counter value it holds (R24), and whether R26 found it reached at the moment it was set, so that
its expiry is the owner's next event (notes/assumptions/4.md). -/
structure Arming where
  time : Stamp
  due  : Bool
  deriving DecidableEq, Repr

/-- A deadline is armed or disarmed (spec/02 "Deadlines"). -/
abbrev Deadline := Option Arming

/-! ## Line ports (spec/01, spec/09) -/

/-- The fifteen line subjects, in the order of their codes (R187). -/
inductive LineSubject where
  | fieldParity | fieldCheck | fieldTruncated | fieldTimeout | fieldOverlength | fieldStray | fieldHeld | fieldStall
  | stationParity | stationCheck | stationTruncated | stationTimeout | stationOverlength | stationStray | stationStall
  deriving DecidableEq, Repr

/-- The defects an assembler finds, before the line gives them their subject (R4 to R9, R151). -/
inductive Defect where
  | stray | truncated | timeout | overlength | parity | check
  deriving DecidableEq, Repr

/-- The frame record of R3. A station record never holds an address-parity indication or a stamp (R151). -/
structure FrameRecord where
  bytes      : List Byte
  len        : Option Nat
  damaged    : Bool
  addrParity : Option Bool
  stamp      : Option Stamp
  deriving DecidableEq, Repr

/-- The four states of a receive assembler (spec/01 "The Field Receive Assembler"). -/
inductive Assembler where
  | idle
  | receiving (r : FrameRecord)
  | hold (r : FrameRecord)
  | hunt
  deriving DecidableEq, Repr

/-- What a symbol arrival comes to: the symbol is acknowledged and nothing is posted; a defect is found and the assembler
goes on in the given state; or position n+4 has arrived and the record is complete (R4 to R9). -/
inductive Arrival where
  | quiet (a : Assembler)
  | faulty (d : Defect) (a : Assembler)
  | complete (r : FrameRecord)
  deriving DecidableEq, Repr

/-- The judgement of a completed frame (R9). -/
inductive Judgement where
  | damaged | checkFailed | good
  deriving DecidableEq, Repr

/-- A receive pair's handshake lines: the sender's strobe as last seen, and the part's acknowledge (R2). -/
structure Receiver where
  strobe : Bool
  ack    : Bool
  deriving DecidableEq, Repr

/-- A transmitter is idle or sending a frame; the position is that of the symbol being sent, from 1 (R16). -/
inductive Sender where
  | idle
  | sending (frame : Frame) (position : Nat)
  deriving DecidableEq, Repr

/-- A transmit pair: the transmitter, its data lines and strobe, the acknowledge as last seen (R17), and whether the acknowledge
of an abandoned symbol is still to come: the next rise is then the acknowledge of no symbol (R18, R160). -/
structure Transmitter where
  sender : Sender
  data   : Symbol
  strobe : Bool
  ack    : Bool
  owed   : Bool
  deriving DecidableEq, Repr

/-- An entry of the intake queue (R13). -/
structure IntakeFrame where
  bytes : Frame
  stamp : Stamp
  deriving DecidableEq, Repr

/-! ## Probe Table (spec/03) -/

inductive ProbeKind where
  | air | surface | water
  deriving DecidableEq, Repr

/-- The forward action of a probe. -/
inductive Action where
  | forward | absorb
  deriving DecidableEq, Repr

inductive ProbeState where
  | unseen | live | stale | faulty
  deriving DecidableEq, Repr

/-- The last value of a probe: absent, VOID, or a temperature (R32). -/
inductive LastValue where
  | absent | void | value (t : Int)
  deriving DecidableEq, Repr

/-- The loaded part of an entry (R31). -/
structure ProbeLoad where
  address  : Byte
  kind     : ProbeKind
  zone     : Fin 24
  action   : Action
  aLow     : Int
  aHigh    : Int
  aTrim    : Int
  bLow     : Int
  bHigh    : Int
  bTrim    : Int
  interval : Nat
  misses   : Nat
  credit   : Nat
  deriving DecidableEq, Repr

/-- A Probe Table entry: the loaded part (R31) and the runtime part (R32). -/
structure ProbeEntry where
  load        : ProbeLoad
  state       : ProbeState
  lastArrival : Option Stamp
  lastValue   : LastValue
  damaged     : Nat
  silence     : Deadline
  deriving DecidableEq, Repr

/-! ## Psychrometric Unit (spec/04) -/

/-- A curve: base, step and the knot pressures; n is their number (R53). -/
structure Curve where
  base   : Int
  step   : Nat
  values : List Nat
  deriving DecidableEq, Repr

/-- The curve staging buffer; the expected index is the number of staged values (R55). -/
inductive Staging where
  | empty
  | filling (base : Int) (step n : Nat) (values : List Nat)
  | full (base : Int) (step n : Nat) (values : List Nat)
  deriving DecidableEq, Repr

inductive Rounding where
  | nearest | down | up
  deriving DecidableEq, Repr

/-- The four conditions of the arithmetic, in the order of their codes (R187). -/
inductive Condition where
  | overrangeT | saturated | negativeRh | lowVapour
  deriving DecidableEq, Repr

/-- A set of conditions, one bit per condition code (R187). -/
abbrev Conditions := BitVec 4

/-- The arithmetic control record; a set bit of `masked` is a masked condition (R62, R187). -/
structure Arithmetic where
  mode   : Rounding
  masked : Conditions
  deriving DecidableEq, Repr

/-- What an air conversion leaves: the sticky flags, the ARITH subjects it posts, and the dew point unless it stopped. -/
structure Conversion where
  sticky : Conditions
  posted : Conditions
  dew    : Option Int
  deriving DecidableEq, Repr

/-! ## Zones (spec/05, spec/06, spec/07) -/

/-- A window slot with what its tag gives it (R79). -/
inductive Slot where
  | empty
  | valid (stamp : Stamp) (dew : Int) (expiry : Arming)
  | void (stamp : Stamp) (expiry : Arming)
  deriving DecidableEq, Repr

/-- The thresholds W, K, H and P (R112). -/
structure Thresholds where
  w : Nat
  k : Nat
  h : Nat
  p : Nat
  deriving DecidableEq, Repr

/-- The six risk states of a zone (R111). -/
inductive ZoneState where
  | dormant | blind | clear | watch | risk | condensing
  deriving DecidableEq, Repr

/-- The candidate persistence can store: RISK or CONDENSING (R111). -/
inductive Raised where
  | risk | condensing
  deriving DecidableEq, Repr

/-- Armed persistence: its deadline, its arming stamp and the stored candidate (R111). -/
structure Persistence where
  arming    : Arming
  stamp     : Stamp
  candidate : Raised
  deriving DecidableEq, Repr

/-- A zone record: configuration (R94), window (R79), trend (R101) and risk record (R111). -/
structure Zone where
  enabled       : Bool
  age           : Nat
  interval      : Nat
  lookahead     : Nat
  grace         : Nat
  active        : Thresholds
  staged        : Option Thresholds
  top           : Fin 8
  slots         : Vector Slot 8
  trendStart    : Option Int
  slope         : Option Int
  trendDeadline : Deadline
  state         : ZoneState
  persistence   : Option Persistence
  blind         : Deadline
  wet           : Bool
  deriving DecidableEq, Repr

/-- The outcome of a margin (R100). -/
inductive MarginOutcome where
  | above | equal | below | unordered
  deriving DecidableEq, Repr

/-- What names the mover of a zone (R127). -/
inductive Cause where
  | margin | persistence | wet | blind | restore | enable | disable
  deriving DecidableEq, Repr

/-- The values a state change records: m, D and S, each known or UNKNOWN (R127). -/
structure Readings where
  m : Option Int
  d : Option Int
  s : Option Int
  deriving DecidableEq, Repr

/-- One state change of a zone (R126). -/
structure Change where
  fromState : ZoneState
  toState   : ZoneState
  cause     : Cause
  readings  : Readings
  deriving DecidableEq, Repr

/-- What an event does to one zone: the record after it and the state changes it made, in order (R126, R129). -/
structure Decision where
  zone    : Zone
  changes : List Change
  deriving DecidableEq, Repr

/-- A verdict entry (R127, R156). -/
structure Verdict where
  zone      : Fin 24
  fromState : ZoneState
  toState   : ZoneState
  cause     : Cause
  readings  : Readings
  stamp     : Stamp
  deriving DecidableEq, Repr

/-! ## Discrete I/O Unit (spec/08) -/

inductive WetState where
  | dry | toWet | wet | toDry
  deriving DecidableEq, Repr

/-- Which taken changes of a wet input post notice WET (R134). -/
inductive Selection where
  | none | onWet | onDry | both
  deriving DecidableEq, Repr

/-- A wet-input record (R134) with the level of its pin (R139); levels are true for high. -/
structure WetInput where
  pin       : Bool
  zone      : Option (Fin 24)
  wetLevel  : Bool
  qualify   : Nat
  selection : Selection
  state     : WetState
  deadline  : Deadline
  capture   : Stamp
  deriving DecidableEq, Repr

inductive Polarity where
  | activeHigh | activeLow
  deriving DecidableEq, Repr

inductive OutputMode where
  | auto | manual
  deriving DecidableEq, Repr

/-- The duty basis of a demand output (R141). -/
inductive Basis where
  | none | condensing | margin | fallback | manual
  deriving DecidableEq, Repr

/-- A demand-output record (R141), with `driven`: the active part of the running period has not been ended (R144). -/
structure Output where
  enabled       : Bool
  zones         : BitVec 24
  band          : Nat
  period        : Nat
  fallback      : Nat
  polarity      : Polarity
  mode          : OutputMode
  manual        : Nat
  periodInForce : Nat
  dutyInForce   : Nat
  start         : Stamp
  boundary      : Deadline
  basis         : Basis
  w             : Option Int
  driven        : Bool
  deriving DecidableEq, Repr

/-! ## Notice Unit (spec/11) -/

/-- One subject set per notice kind, as the bitmaps of R187 (R179). -/
structure NoticeSets where
  wet        : BitVec 4
  condensing : BitVec 24
  risk       : BitVec 24
  blind      : BitVec 24
  probeLost  : BitVec 128
  arith      : BitVec 4
  line       : BitVec 15
  deriving DecidableEq, Repr

/-- A posting: a notice kind with one subject of that kind (R180). -/
inductive Posting where
  | wet (input : Fin 4)
  | condensing (zone : Fin 24)
  | risk (zone : Fin 24)
  | blind (zone : Fin 24)
  | probeLost (address : Byte)
  | arith (c : Condition)
  | line (subject : LineSubject)
  deriving DecidableEq, Repr

/-! ## Commands (spec/10) -/

/-- The result codes of a RESPONSE (R187, spec/10 "The Command Set"). -/
inductive Result where
  | done | unknown | length | range | full | absent | sequence | curve
  deriving DecidableEq, Repr

end Sys2Proof.Machine
end

