-- ==== Sys2Proof/Machine/PowerOn.lean ====
section
/-! DEFINITION. The values power-on, pin reset and RESTART FULL give the records. -/

namespace Sys2Proof.Machine

/-- The built-in curve (R54). -/
def Curve.builtIn : Curve :=
  { base := 0, step := 400,
    values := [611, 813, 1071, 1400, 1814, 2333, 2977, 3771, 4745, 5931, 7367, 9096, 11166] }

/-- Mode NEAREST, OVERRANGE_T unmasked, the other three masked (R62). -/
def Arithmetic.powerOn : Arithmetic := { mode := .nearest, masked := 0b1110#4 }

/-- W 300, K 100, H 50, P 600 (R95). -/
def Thresholds.powerOn : Thresholds := { w := 300, k := 100, h := 50, p := 600 }

/-- A DORMANT zone with its power-on configuration (R79, R95, R101, R111). -/
def Zone.powerOn : Zone :=
  { enabled := false, age := 3000, interval := 600, lookahead := 0, grace := 1800, active := Thresholds.powerOn,
    staged := none, top := 0, slots := Vector.replicate 8 .empty, trendStart := none, slope := none,
    trendDeadline := none, state := .dormant, persistence := none, blind := none, wet := false }

/-- Zone none, wet level high, Q 10, BOTH; the state is taken at once from the pin, with no qualification and no notice, and
the capture stamp is the counter value of the event (R134). -/
def WetInput.powerOn (pin : Bool) (now : Stamp) : WetInput :=
  { pin := pin, zone := none, wetLevel := true, qualify := 10, selection := .both,
    state := if pin = true then .wet else .dry, deadline := none, capture := now }

/-- A disabled output; its pin is at the inactive level (R141, R144). -/
def Output.powerOn (now : Stamp) : Output :=
  { enabled := false, zones := 0, band := 300, period := 600, fallback := 0, polarity := .activeHigh, mode := .auto,
    manual := 0, periodInForce := 0, dutyInForce := 0, start := now, boundary := none, basis := .none, w := none,
    driven := false }

/-- Every set empty (R179). -/
def NoticeSets.none : NoticeSets :=
  { wet := 0, condensing := 0, risk := 0, blind := 0, probeLost := 0, arith := 0, line := 0 }

/-- The alert set RISK and CONDENSING, one bit per state code (R149, R187). -/
def alertSetPowerOn : Byte := 0b00110000#8

/-- A transmitter in IDLE with its strobe low; `ack` is the level of its acknowledge line (R19, R162; notes/assumptions/10.md
for the data lines). -/
def Transmitter.powerOn (ack : Bool) : Transmitter :=
  { sender := .idle, data := 0, strobe := false, ack := ack, owed := false }

/-- A receive pair with its acknowledge low; `strobe` is the level of its strobe line (R19, R162). -/
def Receiver.powerOn (strobe : Bool) : Receiver := { strobe := strobe, ack := false }

end Sys2Proof.Machine
end

