-- ==== Sys2Proof/Machine/State.lean ====
section
/-! DEFINITION. The state of the part, its fault and refusal types, and the state right after reset. -/

namespace Sys2Proof.Machine

open Sys2Proof

/-- The part has no fault: line defects post LINE subjects (R14, R151) and refused commands answer a result code (R167).
Nobody raises one. -/
inductive Fault where
  deriving DecidableEq, Repr

/-- Refusals of the model. -/
inductive Refusal where
  /-- Raised by `exec` for a row without a meaning; no row is left so. Safe: it stops the run. -/
  | notModelled (mnemonic : String)
  deriving DecidableEq, Repr

/-- Everything the spec gives the part, and the queue of waiting commands (INVENTORY.md, "State"). -/
structure State where
  /-- Commands waiting, first in first out (notes/assumptions/1.md). -/
  pending       : List Instr
  /-- RESETN is low: the part is held in reset (R177). -/
  resetLow      : Bool
  /-- The tick counter (R22). -/
  counter       : Stamp
  /-- 240 plus the straps last read (R178). -/
  ownAddress    : Byte
  /-- FRSTB and FRACK (R2). -/
  fieldRx       : Receiver
  /-- The field receive assembler (R3). -/
  fieldAsm      : Assembler
  /-- The intake queue, head first (R13). -/
  intake        : List IntakeFrame
  /-- The field-out queue, head first (R15). -/
  fieldOut      : List Frame
  /-- The field transmitter (R16). -/
  fieldTx       : Transmitter
  /-- SRSTB and SRACK (R151). -/
  stationRx     : Receiver
  /-- The station receive assembler (R151). -/
  stationAsm    : Assembler
  /-- The forward queue, head first (R155). -/
  forward       : List Frame
  /-- The verdict queue, head first (R156). -/
  verdicts      : List Verdict
  /-- The response slot (R157). -/
  response      : Option Frame
  /-- The station transmitter (R160). -/
  stationTx     : Transmitter
  /-- The verdict run of the uplink arbiter (R158). -/
  verdictRun    : Nat
  /-- The Probe Table in ascending address (R33). -/
  probes        : List ProbeEntry
  /-- The curve in force (R53). -/
  curve         : Curve
  /-- The curve staging buffer (R55). -/
  staging       : Staging
  /-- The arithmetic control record (R62). -/
  arith         : Arithmetic
  /-- The sticky flags (R66). -/
  sticky        : Conditions
  /-- The deferred marks (R67). -/
  deferred      : Conditions
  /-- The zone records (R79, R94, R101, R111). -/
  zones         : Vector Zone 24
  /-- The wet-input records (R134). -/
  wetInputs     : Vector WetInput 4
  /-- The demand-output records (R141). -/
  outputs       : Vector Output 4
  /-- The alert set, one bit per state code (R149). -/
  alertSet      : Byte
  /-- The ALERT line is asserted (R149). -/
  alert         : Bool
  /-- The pending sets (R179). -/
  noticePending : NoticeSets
  /-- The armed sets (R179). -/
  noticeArmed   : NoticeSets
  deriving DecidableEq, Repr

/-- The part as power-on leaves it (R176), with the input pins at the levels of notes/assumptions/9.md and nothing queued. -/
def State.reset : State :=
  { pending := [], resetLow := false, counter := 0, ownAddress := 240,
    fieldRx := Receiver.powerOn false, fieldAsm := .idle, intake := [], fieldOut := [],
    fieldTx := Transmitter.powerOn false,
    stationRx := Receiver.powerOn false, stationAsm := .idle, forward := [], verdicts := [], response := none,
    stationTx := Transmitter.powerOn false, verdictRun := 0,
    probes := [], curve := Curve.builtIn, staging := .empty, arith := Arithmetic.powerOn, sticky := 0, deferred := 0,
    zones := Vector.replicate 24 Zone.powerOn, wetInputs := Vector.replicate 4 (WetInput.powerOn true 0),
    outputs := Vector.replicate 4 (Output.powerOn 0), alertSet := alertSetPowerOn, alert := false,
    noticePending := NoticeSets.none, noticeArmed := NoticeSets.none }

end Sys2Proof.Machine
end

