-- ==== Sys2Proof/Machine/Flags.lean ====
section
/-! DEFINITION. The flags of the part: the subject sets of the Notice Unit and the attention state read from them, and the
condition flags of the Psychrometric Unit. -/

namespace Sys2Proof.Machine

open Sys2Proof

/-! ## Codes of the members of a set (R187) -/

/-- The code of a line subject, 1 to 15. -/
def LineSubject.code : LineSubject → Nat
  | .fieldParity => 1 | .fieldCheck => 2 | .fieldTruncated => 3 | .fieldTimeout => 4 | .fieldOverlength => 5
  | .fieldStray => 6 | .fieldHeld => 7 | .fieldStall => 8
  | .stationParity => 9 | .stationCheck => 10 | .stationTruncated => 11 | .stationTimeout => 12
  | .stationOverlength => 13 | .stationStray => 14 | .stationStall => 15

/-- The code of a condition, 0 to 3. -/
def Condition.code : Condition → Nat
  | .overrangeT => 0 | .saturated => 1 | .negativeRh => 2 | .lowVapour => 3

/-- The set holding one condition. -/
def Condition.bit (c : Condition) : Conditions := BitVec.twoPow 4 c.code

/-- Whether a set of conditions holds a condition. -/
def Conditions.has (cs : Conditions) (c : Condition) : Bool := cs.getLsbD c.code

/-! ## Subject sets -/

/-- Posting adds the subject to the pending set of its kind; one already there stays (R180). A line subject's bit is its
code less one (R187). -/
def NoticeSets.post (n : NoticeSets) : Posting → NoticeSets
  | .wet i => { n with wet := n.wet ||| BitVec.twoPow 4 i }
  | .condensing z => { n with condensing := n.condensing ||| BitVec.twoPow 24 z }
  | .risk z => { n with risk := n.risk ||| BitVec.twoPow 24 z }
  | .blind z => { n with blind := n.blind ||| BitVec.twoPow 24 z }
  | .probeLost a => { n with probeLost := n.probeLost ||| BitVec.twoPow 128 a.toNat }
  | .arith c => { n with arith := n.arith ||| c.bit }
  | .line l => { n with line := n.line ||| BitVec.twoPow 15 (l.code - 1) }

/-- Posts every condition of a set as a subject of ARITH (R67, R75). -/
def NoticeSets.postConditions (n : NoticeSets) (cs : Conditions) : NoticeSets := { n with arith := n.arith ||| cs }

/-- The subjects of `n` that are not in `armed`, kind by kind (R183). -/
def NoticeSets.without (n armed : NoticeSets) : NoticeSets :=
  { wet := n.wet &&& ~~~armed.wet, condensing := n.condensing &&& ~~~armed.condensing, risk := n.risk &&& ~~~armed.risk,
    blind := n.blind &&& ~~~armed.blind, probeLost := n.probeLost &&& ~~~armed.probeLost,
    arith := n.arith &&& ~~~armed.arith, line := n.line &&& ~~~armed.line }

/-- Removes one address from PROBE_LOST (R184). -/
def NoticeSets.dropProbe (n : NoticeSets) (a : Byte) : NoticeSets :=
  { n with probeLost := n.probeLost &&& ~~~BitVec.twoPow 128 a.toNat }

/-! ## Attention state (R181) -/

/-- The top notice: the code of the highest-priority pending kind, or 0 (R181). -/
def NoticeSets.top (n : NoticeSets) : Nat :=
  if n.wet ≠ 0 then 1 else if n.condensing ≠ 0 then 2 else if n.risk ≠ 0 then 3 else if n.blind ≠ 0 then 4
  else if n.probeLost ≠ 0 then 5 else if n.arith ≠ 0 then 6 else if n.line ≠ 0 then 7 else 0

/-- The attention mark: set when at least one kind is pending (R181). -/
def NoticeSets.attention (n : NoticeSets) : Bool :=
  n.wet != 0 || n.condensing != 0 || n.risk != 0 || n.blind != 0 || n.probeLost != 0 || n.arith != 0 || n.line != 0

end Sys2Proof.Machine
end

