-- ==== Sys2Proof/Machine/Operands.lean ====
section
/-! DEFINITION. The field encodings of R187: reading the fields of a COMMAND payload and writing the fields of a RESPONSE or
VERDICT payload. -/

namespace Sys2Proof.Machine

open Sys2Proof

/-! ## Reading fields; `at` counts from the byte after the command code -/

/-- One unsigned byte. -/
def u8 (f : List Byte) (i : Nat) : Nat := (f.getD i 0).toNat

/-- Two bytes, unsigned, most significant first. -/
def u16 (f : List Byte) (i : Nat) : Nat := 256 * u8 f i + u8 f (i + 1)

/-- Two bytes, two's complement, most significant first. -/
def s16 (f : List Byte) (i : Nat) : Int := (BitVec.ofNat 16 (u16 f i)).toInt

/-- A three-byte set of zones; bit z of the 24-bit number stands for zone z, byte 1 most significant. -/
def zoneSet (f : List Byte) (i : Nat) : BitVec 24 := f.getD i 0 ++ f.getD (i + 1) 0 ++ f.getD (i + 2) 0

/-- A zone number in 0 … 23. -/
def zoneOf (n : Nat) : Option (Fin 24) := if h : n < 24 then some ⟨n, h⟩ else none

/-- A wet-input or demand-output number in 0 … 3. -/
def unitOf (n : Nat) : Option (Fin 4) := if h : n < 4 then some ⟨n, h⟩ else none

/-! ## Writing fields -/

/-- One byte. -/
def b8 (n : Nat) : List Byte := [BitVec.ofNat 8 n]

/-- Two bytes, unsigned. -/
def b16 (n : Nat) : List Byte := [BitVec.ofNat 8 (n / 256), BitVec.ofNat 8 n]

/-- Two bytes, signed. -/
def i16 (x : Int) : List Byte := b16 (BitVec.ofInt 16 x).toNat

/-- Two bytes, signed; UNKNOWN is −32768. -/
def known (x : Option Int) : List Byte := i16 (x.getD (-32768))

/-- A counter value, three bytes. -/
def b24 (t : Stamp) : List Byte := [t.extractLsb' 16 8, t.extractLsb' 8 8, t.extractLsb' 0 8]

/-- An indication or a yes-or-no field. -/
def flag (b : Bool) : List Byte := b8 b.toNat

/-- A counter value that may be absent: the indication, then the value or 0 (R187). -/
def stamped (t : Option Stamp) : List Byte := flag t.isSome ++ b24 (t.getD 0)

/-- A deadline: whether it is armed, and its counter value or 0. -/
def deadlineField (d : Deadline) : List Byte := stamped (d.map Arming.time)

/-- A set of four members in one byte. -/
def set4 (b : BitVec 4) : List Byte := [b.zeroExtend 8]

/-! ## Codes of named values (R187) -/

def ZoneState.code : ZoneState → Nat
  | .dormant => 0 | .blind => 1 | .clear => 2 | .watch => 3 | .risk => 4 | .condensing => 5

def Cause.code : Cause → Nat
  | .margin => 1 | .persistence => 2 | .wet => 3 | .blind => 4 | .restore => 5 | .enable => 6 | .disable => 7

def Result.code : Result → Nat
  | .done => 0 | .unknown => 1 | .length => 2 | .range => 3 | .full => 4 | .absent => 5 | .sequence => 6 | .curve => 7

def ProbeKind.code : ProbeKind → Nat
  | .air => 0 | .surface => 1 | .water => 2

def ProbeKind.ofCode : Nat → Option ProbeKind
  | 0 => some .air | 1 => some .surface | 2 => some .water | _ => none

def Action.code : Action → Nat
  | .forward => 0 | .absorb => 1

def Action.ofCode : Nat → Option Action
  | 0 => some .forward | 1 => some .absorb | _ => none

def ProbeState.code : ProbeState → Nat
  | .unseen => 0 | .live => 1 | .stale => 2 | .faulty => 3

/-- The last value form, and the temperature or UNKNOWN (R38). -/
def LastValue.field : LastValue → List Byte
  | .absent => b8 0 ++ known none
  | .void => b8 1 ++ known none
  | .value t => b8 2 ++ known (some t)

def Rounding.code : Rounding → Nat
  | .nearest => 0 | .down => 1 | .up => 2

def Rounding.ofCode : Nat → Option Rounding
  | 0 => some .nearest | 1 => some .down | 2 => some .up | _ => none

/-- A mask setting: true is masked. -/
def maskOf : Nat → Option Bool
  | 0 => some false | 1 => some true | _ => none

/-- A yes-or-no field. -/
def yesNoOf : Nat → Option Bool
  | 0 => some false | 1 => some true | _ => none

/-- A wet level: true is high. -/
def levelOf : Nat → Option Bool
  | 0 => some false | 1 => some true | _ => none

def Staging.code : Staging → Nat
  | .empty => 0 | .filling .. => 1 | .full .. => 2

def MarginOutcome.code : MarginOutcome → Nat
  | .above => 0 | .equal => 1 | .below => 2 | .unordered => 3

def WetState.code : WetState → Nat
  | .dry => 0 | .toWet => 1 | .wet => 2 | .toDry => 3

def Selection.code : Selection → Nat
  | .none => 0 | .onWet => 1 | .onDry => 2 | .both => 3

def Selection.ofCode : Nat → Option Selection
  | 0 => some .none | 1 => some .onWet | 2 => some .onDry | 3 => some .both | _ => Option.none

def Polarity.code : Polarity → Nat
  | .activeHigh => 0 | .activeLow => 1

def Polarity.ofCode : Nat → Option Polarity
  | 0 => some .activeHigh | 1 => some .activeLow | _ => none

def OutputMode.code : OutputMode → Nat
  | .auto => 0 | .manual => 1

def OutputMode.ofCode : Nat → Option OutputMode
  | 0 => some .auto | 1 => some .manual | _ => none

def Basis.code : Basis → Nat
  | .none => 0 | .condensing => 1 | .margin => 2 | .fallback => 3 | .manual => 4

/-- The state a stored candidate names. -/
def Raised.state : Raised → ZoneState
  | .risk => .risk | .condensing => .condensing

/-- A zone-or-none field: 0 … 23, or 255 for none; 24 … 254 name nothing (R187). -/
def zoneOrNoneOf (n : Nat) : Option (Option (Fin 24)) :=
  if n = 255 then some none else (zoneOf n).map some

def zoneOrNone : Option (Fin 24) → List Byte
  | none => b8 255
  | some z => b8 z

def thresholdsField (t : Thresholds) : List Byte := b16 t.w ++ b16 t.k ++ b16 t.h ++ b16 t.p

/-- The seven subject sets in priority order, 1, 3, 3, 3, 16, 1 and 2 bytes, most significant byte first
(R188; notes/assumptions/13.md). -/
def NoticeSets.field (n : NoticeSets) : List Byte :=
  set4 n.wet ++ b24 n.condensing ++ b24 n.risk ++ b24 n.blind
    ++ (List.range 16).map (fun i => n.probeLost.extractLsb' (8 * (15 - i)) 8)
    ++ set4 n.arith ++ b16 n.line.toNat

end Sys2Proof.Machine
end

