-- ==== Sys2Proof/Machine/Ops.lean ====
section
/-! DEFINITION. The operations every block shares: counter arithmetic and deadlines, record access, posting. -/

namespace Sys2Proof.Machine

open Sys2Proof

/-! ## Deadlines (spec/02) -/

/-- Ticks from a base stamp to now, modulo the turn of the counter (R26). -/
def elapsed (now base : Stamp) : Nat := (now - base).toNat

/-- The half-range test: a deadline is reached at `now` when it lies in the half turn that ends at `now` (R25). -/
def reached (now deadline : Stamp) : Bool := decide (elapsed now deadline < Config.halfTurn)

/-- A duration limited to 65,535 before the deadline is formed (R24). -/
def limited (d : Nat) : Nat := min d Config.longestDuration

/-- The value of a deadline: base stamp plus duration, modulo the turn of the counter (R24). -/
def deadlineAt (base : Stamp) (duration : Nat) : Stamp := base + BitVec.ofNat 24 (limited duration)

/-- Setting a deadline under R26: it is due at once when the elapsed time is the duration or more, and ahead otherwise. -/
def setDeadline (now base : Stamp) (duration : Nat) : Arming :=
  { time := deadlineAt base duration, due := decide (limited duration ≤ elapsed now base) }

/-- A periodic deadline re-armed from its own previous value (R28). -/
def armAt (base : Stamp) (duration : Nat) : Arming := { time := deadlineAt base duration, due := false }

/-- An armed deadline whose expiry may be taken now: found reached when set (R26), or reached by the counter (R25, R27). -/
def Arming.expired (a : Arming) (now : Stamp) : Bool := a.due || reached now a.time

/-- The same of a deadline that may be disarmed: a disarmed one gives no expiry (R27). -/
def deadlineExpired (d : Deadline) (now : Stamp) : Bool := d.any (fun a => a.expired now)

/-- A deadline R26 found reached when it was set. -/
def deadlineDue (d : Deadline) : Bool := d.any Arming.due

/-! ## Saturation -/

/-- Limits a value to a range. -/
def clampTo (lo hi x : Int) : Int := max lo (min hi x)

/-- Margins, slopes and other derived differences are saturated to −32767 … +32767 (00_scope.md, "Temperatures and
Differences"). -/
def saturate (x : Int) : Int := clampTo (-32767) 32767 x

/-! ## Record access -/

def State.zone (s : State) (z : Fin 24) : Zone := s.zones[z]

def State.setZone (s : State) (z : Fin 24) (r : Zone) : State := { s with zones := s.zones.set z r }

def State.wetInput (s : State) (i : Fin 4) : WetInput := s.wetInputs[i]

def State.setWetInput (s : State) (i : Fin 4) (r : WetInput) : State := { s with wetInputs := s.wetInputs.set i r }

def State.output (s : State) (o : Fin 4) : Output := s.outputs[o]

def State.setOutput (s : State) (o : Fin 4) (r : Output) : State := { s with outputs := s.outputs.set o r }

def State.setProbes (s : State) (p : List ProbeEntry) : State := { s with probes := p }

/-- The 24 zones in ascending number. -/
def allZones : List (Fin 24) := List.finRange 24

/-- The four wet inputs or demand outputs in ascending number. -/
def allUnits : List (Fin 4) := List.finRange 4

/-- The eight slots of a window in index order. -/
def allSlots : List (Fin 8) := List.finRange 8

/-! ## Notices -/

/-- A posting takes effect at once on the pending set of its kind (R180). -/
def State.post (s : State) (p : Posting) : State := { s with noticePending := s.noticePending.post p }

/-- Posts a line fault (R14). -/
def State.postLine (s : State) (l : LineSubject) : State := s.post (.line l)

end Sys2Proof.Machine
end

