-- ==== Sys2Proof/Machine/Zones.lean ====
section
/-! DEFINITION. The Zone Evaluator: windows (spec/05), margins and trend (spec/06), the risk steps and state changes
(spec/07). A zone's decision is formed on its record alone (`Decision`) and then applied to the part (`State.applyDecision`). -/

namespace Sys2Proof.Machine

open Sys2Proof

/-! ## Contributions and the surface minimum (R32, R98) -/

/-- The temperature an entry contributes to its zone: SURFACE or WATER, LIVE, last value a temperature (R32). -/
def ProbeEntry.contribution (e : ProbeEntry) : Option Int :=
  match e.load.kind, e.state, e.lastValue with
  | .air, _, _ => none
  | _, .live, .value t => some t
  | _, _, _ => none

/-- The surface minimum S of a zone: the smallest contributed temperature, UNKNOWN when no entry contributes (R98). -/
def State.surfaceMin (s : State) (z : Fin 24) : Option Int :=
  ((s.probes.filter fun e => e.load.zone == z).filterMap ProbeEntry.contribution).min?

/-! ## The window (R79 to R87) -/

/-- The dew point of a VALID slot. -/
def Slot.dew : Slot → Option Int
  | .valid _ d _ => some d
  | _ => none

/-- The stamp of an occupied slot. -/
def Slot.stamp : Slot → Option Stamp
  | .empty => none
  | .valid t _ _ => some t
  | .void t _ => some t

/-- The expiry deadline of a slot, armed while it is occupied (R79). -/
def Slot.expiry : Slot → Deadline
  | .empty => none
  | .valid _ _ a => some a
  | .void _ a => some a

def Slot.tagCode : Slot → Nat
  | .empty => 0
  | .valid .. => 1
  | .void .. => 2

def Zone.slot (z : Zone) (k : Fin 8) : Slot := z.slots[k]

/-- The zone dew point D: the largest dew point among the VALID slots, UNKNOWN when there is none (R84). -/
def Zone.dew (z : Zone) : Option Int := (z.slots.toList.filterMap Slot.dew).max?

def Zone.occupied (z : Zone) : Nat := z.slots.toList.countP fun k => k.stamp.isSome

/-- A push into an enabled zone's window: TOP steps down by one modulo 8, and the slot there is written with the result and its
expiry set from the completion stamp (R81, steps 1 to 3). `none` is a VOID result (R85). -/
def Zone.push (now stamp : Stamp) (result : Option Int) (z : Zone) : Zone :=
  let k : Fin 8 := z.top + 7
  let a := setDeadline now stamp z.age
  { z with
    top := k
    slots := z.slots.set k
      (match result with
        | some d => .valid stamp d a
        | none => .void stamp a) }

/-- A slot's expiry empties it; TOP is kept (R83). -/
def Zone.expireSlot (k : Fin 8) (z : Zone) : Zone := { z with slots := z.slots.set k .empty }

/-- Emptying the window: all eight slots EMPTY, TOP kept (R87). -/
def Zone.emptyWindow (z : Zone) : Zone := { z with slots := Vector.replicate 8 .empty }

/-- The expiry of an occupied slot formed again from its own stamp with a new age limit (R28, R86). -/
def Slot.recompute (now : Stamp) (age : Nat) : Slot → Slot
  | .empty => .empty
  | .valid t d _ => .valid t d (setDeadline now t age)
  | .void t _ => .void t (setDeadline now t age)

/-! ## Margin, outcome and projection (R99, R100, R105) -/

/-- The margin m: S less D, saturated; UNKNOWN when either is (R99). -/
def marginOf (s d : Option Int) : Option Int :=
  match s, d with
  | some s, some d => some (saturate (s - d))
  | _, _ => none

/-- The outcome of a margin (R100). -/
def outcomeOf : Option Int → MarginOutcome
  | none => .unordered
  | some m => if 0 < m then .above else if m = 0 then .equal else .below

/-- The projected margin from a known margin: only a rising dew point over a lookahead lowers it (R105). -/
def projectFrom (m : Int) (slope : Option Int) (lookahead : Nat) : Int :=
  match slope with
  | some v => if 0 < v ∧ 0 < lookahead then max (-32767) (m - v * lookahead) else m
  | none => m

/-- m, D and S of a zone whose surface minimum is `s` (R108). -/
def Zone.readings (z : Zone) (s : Option Int) : Readings := { m := marginOf s z.dew, d := z.dew, s := s }

/-- The projected margin p, UNKNOWN with m (R105). -/
def Zone.projected (z : Zone) (s : Option Int) : Option Int :=
  (z.readings s).m.map fun m => projectFrom m z.slope z.lookahead

/-! ## Trend (R101 to R104) -/

/-- A trend with nothing known, its deadline armed at now plus I when I > 0 (R104). -/
def Zone.freshTrend (now : Stamp) (z : Zone) : Zone :=
  { z with
    trendStart := none, slope := none
    trendDeadline := if 0 < z.interval then some (setDeadline now now z.interval) else none }

/-- The trend restart of a SET ZONE that changes I (R103). -/
def Zone.restartTrend (now : Stamp) (z : Zone) : Zone :=
  { z with
    trendStart := if 0 < z.interval then z.dew else none, slope := none
    trendDeadline := if 0 < z.interval then some (setDeadline now now z.interval) else none }

/-- The slope from the start value to D, UNKNOWN unless both are known (R102, step 2). -/
def slopeOf (start d : Option Int) : Option Int :=
  match start, d with
  | some a, some b => some (saturate (b - a))
  | _, _ => none

/-- A trend expiry on the record, before its evaluation (R102, steps 1 to 4). -/
def Zone.trendStep (a : Arming) (z : Zone) : Zone :=
  { z with
    slope := slopeOf z.trendStart z.dew, trendStart := z.dew
    trendDeadline := some (armAt a.time z.interval) }

/-! ## The risk steps (R114 to R121) -/

/-- Whether a state is a level (R111). -/
def ZoneState.isLevel : ZoneState → Bool
  | .dormant => false
  | .blind => false
  | _ => true

/-- The order of the levels (R111). -/
def ZoneState.rank : ZoneState → Nat
  | .dormant => 0 | .blind => 0 | .clear => 1 | .watch => 2 | .risk => 3 | .condensing => 4

/-- A state change is a step in which the state takes a different value (R126). -/
def Decision.move (d : Decision) (next : ZoneState) (cause : Cause) (r : Readings) : Decision :=
  if d.zone.state = next then d
  else
    { zone := { d.zone with state := next }
      changes := d.changes ++ [{ fromState := d.zone.state, toState := next, cause := cause, readings := r }] }

/-- The persistence deadline is disarmed, its arming stamp and candidate dropped. -/
def Decision.disarmPersistence (d : Decision) : Decision := { d with zone := { d.zone with persistence := none } }

def Decision.disarmBlind (d : Decision) : Decision := { d with zone := { d.zone with blind := none } }

/-- A staged set becomes active; armed persistence is recomputed from its arming stamp when P changes (R114). -/
def Zone.takeUp (now : Stamp) (z : Zone) : Zone :=
  match z.staged with
  | none => z
  | some t =>
    { z with
      active := t, staged := none
      persistence :=
        if t.p = z.active.p then z.persistence
        else z.persistence.map fun p => { p with arming := setDeadline now p.stamp t.p } }

/-- The candidate level (R118). -/
def candidateOf (t : Thresholds) (m p : Int) : ZoneState :=
  if m ≤ 0 then .condensing
  else if m < t.k then .risk
  else if m < t.w ∨ p < t.k then .watch
  else .clear

/-- Persistence handed a raised candidate in WATCH (R120). -/
def Decision.persist (d : Decision) (now : Stamp) (c : Raised) : Decision :=
  { d with
    zone :=
      { d.zone with
        persistence :=
          match d.zone.persistence with
          | none => some { arming := setDeadline now now d.zone.active.p, stamp := now, candidate := c }
          | some p => some { p with candidate := c } } }

/-- The fifth risk step: the zone is raised toward the candidate (R119). -/
def Decision.raise (d : Decision) (now : Stamp) (c : ZoneState) (r : Readings) : Decision :=
  match d.zone.state, c with
  | .clear, .watch => d.move .watch .margin r
  | .clear, .risk => (d.move .watch .margin r).persist now .risk
  | .clear, .condensing => (d.move .watch .margin r).persist now .condensing
  | .watch, .risk => d.persist now .risk
  | .watch, .condensing => d.persist now .condensing
  | .risk, .condensing => d.move .condensing .margin r
  | _, _ => d

/-- One step down while the state is above the candidate and its exit condition holds (R121). -/
def Decision.stepDown (d : Decision) (c : ZoneState) (m p : Int) (r : Readings) : Decision :=
  let t := d.zone.active
  if c.rank < d.zone.state.rank then
    match d.zone.state with
    | .condensing => if (t.h : Int) ≤ m then d.move .risk .margin r else d
    | .risk => if (t.k + t.h : Int) ≤ m then d.move .watch .margin r else d
    | .watch => if (t.w + t.h : Int) ≤ m ∧ (t.k + t.h : Int) ≤ p then d.move .clear .margin r else d
    | _ => d
  else d

/-- The sixth and seventh risk steps: with c WATCH or CLEAR, or c RISK in CONDENSING, persistence is disarmed and the state
steps down as far as the exits allow, three levels at most (R121). -/
def Decision.lower (d : Decision) (c : ZoneState) (m p : Int) (r : Readings) : Decision :=
  if c = .watch ∨ c = .clear ∨ (c = .risk ∧ d.zone.state = .condensing) then
    ((d.disarmPersistence.stepDown c m p r).stepDown c m p r).stepDown c m p r
  else d

/-- The third to seventh risk steps, with the margin known (R117 to R121). -/
def Decision.ordered (d : Decision) (now : Stamp) (m p : Int) (r : Readings) : Decision :=
  let awake := d.disarmBlind
  let restored := if awake.zone.state = .blind then awake.move .clear .restore r else awake
  let c := candidateOf restored.zone.active m p
  (restored.raise now c r).lower c m p r

/-- The second risk step, with the margin UNKNOWN: persistence is disarmed and a level's blind grace begins unless it runs
already (R116). -/
def Decision.unordered (d : Decision) (now : Stamp) : Decision :=
  let z := d.disarmPersistence.zone
  { d with
    zone :=
      { z with
        blind :=
          if z.state.isLevel then
            match z.blind with
            | none => some (setDeadline now now z.grace)
            | some a => some a
          else z.blind } }

/-- The first risk step, with the wet flag set (R115). -/
def Decision.wetStep (d : Decision) (r : Readings) : Decision :=
  d.disarmPersistence.disarmBlind.move .condensing .wet r

/-- The risk steps in order (R115 to R121). -/
def Decision.riskSteps (d : Decision) (now : Stamp) (r : Readings) : Decision :=
  if d.zone.wet then d.wetStep r
  else
    match r.m with
    | none => d.unordered now
    | some m => d.ordered now m (projectFrom m d.zone.slope d.zone.lookahead) r

/-- An evaluation: take-up, aggregates, risk steps; a DORMANT zone is not evaluated (R106). -/
def Decision.evaluate (d : Decision) (now : Stamp) (s : Option Int) : Decision :=
  if d.zone.enabled then
    let taken : Decision := { d with zone := d.zone.takeUp now }
    taken.riskSteps now (taken.zone.readings s)
  else d

/-- A decision that has changed nothing yet. -/
def Zone.untouched (z : Zone) : Decision := { zone := z, changes := [] }

/-- Persistence expiry on the record: the state becomes the stored candidate (R122, R128). -/
def Zone.persistenceExpiry (z : Zone) (p : Persistence) (s : Option Int) : Decision :=
  (z.untouched.move p.candidate.state .persistence (z.readings s)).disarmPersistence

/-- Blind expiry on the record: the state becomes BLIND (R123, R128). -/
def Zone.blindExpiry (z : Zone) (s : Option Int) : Decision :=
  (z.untouched.move .blind .blind (z.readings s)).disarmBlind.disarmPersistence

/-- m and D UNKNOWN, S as the Probe Table gives it: what an enabling, disabling or restart records (R128). -/
def Readings.unseen (s : Option Int) : Readings := { m := none, d := none, s := s }

/-- ENABLE ZONE of a DORMANT zone, steps 1 to 6 (R124). -/
def Zone.enable (now : Stamp) (s : Option Int) (z : Zone) : Decision :=
  let fresh := Zone.freshTrend now (Zone.emptyWindow { z with enabled := true, persistence := none, blind := none })
  (fresh.untouched.move .blind .enable (Readings.unseen s)).evaluate now s

/-- DISABLE ZONE of an enabled zone (R125, R104). -/
def Zone.disable (s : Option Int) (z : Zone) : Decision :=
  let closed := Zone.emptyWindow
    { z with enabled := false, persistence := none, blind := none, trendStart := none, slope := none,
             trendDeadline := none }
  closed.untouched.move .dormant .disable (Readings.unseen s)

/-- The zone step of RESTART EVALUATION for an enabled zone (R130, R172 step 3). -/
def Zone.restart (now : Stamp) (s : Option Int) (z : Zone) : Decision :=
  let fresh := Zone.freshTrend now (Zone.emptyWindow { z with persistence := none, blind := none })
  (fresh.untouched.move .blind .enable (Readings.unseen s)).evaluate now s

/-! ## What a state change does (R126, R127, R149, R156) -/

/-- A state change acts on the verdict queue: it updates the zone's waiting entry in place, keeping its from-state, or makes a
new entry at the tail (R156). -/
def queueVerdict (z : Fin 24) (now : Stamp) (q : List Verdict) (c : Change) : List Verdict :=
  if q.any fun v => v.zone == z then
    q.map fun v =>
      if v.zone == z then { v with toState := c.toState, cause := c.cause, readings := c.readings, stamp := now } else v
  else
    q ++ [{ zone := z, fromState := c.fromState, toState := c.toState, cause := c.cause, readings := c.readings,
            stamp := now }]

/-- Entering CONDENSING, RISK or BLIND posts the notice of that name; entering another state posts nothing (R126). -/
def postEntered (z : Fin 24) (n : NoticeSets) (c : Change) : NoticeSets :=
  match c.toState with
  | .condensing => n.post (.condensing z)
  | .risk => n.post (.risk z)
  | .blind => n.post (.blind z)
  | _ => n

/-- Some enabled zone is in a state of the alert set (R149). -/
def State.alertNow (s : State) : Bool :=
  allZones.any fun z => (s.zone z).enabled && s.alertSet.getLsbD (s.zone z).state.code

/-- Writes a zone's record and makes its state changes: verdicts, notices, and the ALERT line as the zones then stand. An event
without a state change leaves those three as they are (R126, R129). -/
def State.applyDecision (s : State) (z : Fin 24) (d : Decision) : State :=
  { s with
    zones := s.zones.set z d.zone
    verdicts := d.changes.foldl (queueVerdict z s.counter) s.verdicts
    noticePending := d.changes.foldl (postEntered z) s.noticePending
    alert := if d.changes = [] then s.alert else (s.setZone z d.zone).alertNow }

/-- An evaluation of a zone as the part stands (R106). -/
def State.evaluate (s : State) (z : Fin 24) : State :=
  s.applyDecision z ((s.zone z).untouched.evaluate s.counter (s.surfaceMin z))

/-- A push: dropped in a DORMANT zone, otherwise written and evaluated (R81). -/
def State.push (s : State) (z : Fin 24) (stamp : Stamp) (result : Option Int) : State :=
  if (s.zone z).enabled then (s.setZone z ((s.zone z).push s.counter stamp result)).evaluate z else s

/-- A slot expiry: the slot is emptied and the zone evaluated (R83). -/
def State.slotExpiry (s : State) (z : Fin 24) (k : Fin 8) : State :=
  (s.setZone z ((s.zone z).expireSlot k)).evaluate z

/-- A trend expiry (R102). -/
def State.trendExpiry (s : State) (z : Fin 24) (a : Arming) : State :=
  (s.setZone z ((s.zone z).trendStep a)).evaluate z

/-- A persistence expiry (R122); nothing where persistence is disarmed. -/
def State.persistenceExpiry (s : State) (z : Fin 24) : State :=
  match (s.zone z).persistence with
  | none => s
  | some p => s.applyDecision z ((s.zone z).persistenceExpiry p (s.surfaceMin z))

/-- A blind expiry (R123). -/
def State.blindExpiry (s : State) (z : Fin 24) : State :=
  s.applyDecision z ((s.zone z).blindExpiry (s.surfaceMin z))

end Sys2Proof.Machine
end

