-- ==== Sys2Proof/Machine/Discrete.lean ====
section
/-! DEFINITION. The Discrete I/O Unit: wet inputs, demand outputs and the ALERT line (spec/08). -/

namespace Sys2Proof.Machine

open Sys2Proof

/-! ## Wet inputs (R134 to R138) -/

/-- The taken state is WET: it holds through TO_DRY until the drying qualifies (R134). -/
def WetState.taken : WetState → Bool
  | .dry => false | .toWet => false | .wet => true | .toDry => true

/-- The taken state a level gives at once: WET when it is the wet level (R134, R138). -/
def WetInput.atOnce (r : WetInput) : WetState := if r.pin = r.wetLevel then .wet else .dry

/-- The pin takes a new level, and the record acts by its state (R135). -/
def WetInput.levelChange (now : Stamp) (high : Bool) (r : WetInput) : WetInput :=
  let wet := high == r.wetLevel
  match r.state with
  | .dry => if wet then { r with pin := high, state := .toWet, deadline := some (setDeadline now now r.qualify) }
            else { r with pin := high }
  | .toWet => if wet then { r with pin := high } else { r with pin := high, state := .dry, deadline := none }
  | .wet => if wet then { r with pin := high }
            else { r with pin := high, state := .toDry, deadline := some (setDeadline now now r.qualify) }
  | .toDry => if wet then { r with pin := high, state := .wet, deadline := none } else { r with pin := high }

/-- The selection matches a taken change (R136, step 4). -/
def Selection.matches (c : Selection) (wet : Bool) : Bool :=
  match c with
  | .none => false | .onWet => wet | .onDry => !wet | .both => true

/-- A zone's wet flag: some input mapped to it has the taken state WET (R137). -/
def State.wetFlag (s : State) (z : Fin 24) : Bool :=
  s.wetInputs.toList.any fun r => r.zone == some z && r.state.taken

/-- Recomputes and writes the flag of a zone, without evaluating it. -/
def State.writeWetFlag (s : State) (z : Fin 24) : State := s.setZone z { s.zone z with wet := s.wetFlag z }

/-- Recomputes the flags of the listed zones and then evaluates, in the order of the list, each enabled zone whose flag
changed (R137, R138, R107). -/
def State.recomputeFlags (s : State) (zs : List (Fin 24)) : State :=
  let changed := zs.filter fun z => s.wetFlag z != (s.zone z).wet
  changed.foldl State.evaluate (changed.foldl State.writeWetFlag s)

/-- A qualification expiry of an input in TO_WET or TO_DRY, in R136's order. -/
def State.qualificationExpiry (s : State) (i : Fin 4) : State :=
  let r := s.wetInput i
  let wet := r.state == .toWet
  let taken := s.setWetInput i { r with state := if wet then .wet else .dry, deadline := none, capture := s.counter }
  let flagged := taken.recomputeFlags r.zone.toList
  if r.selection.matches wet then flagged.post (.wet i) else flagged

/-- SET WET INPUT's record: the wet-level step, then zone, Q and selection (R138). -/
def WetInput.configure (now : Stamp) (zone : Option (Fin 24)) (wetLevel : Bool) (qualify : Nat) (selection : Selection)
    (r : WetInput) : WetInput :=
  let levelled : WetInput :=
    if wetLevel = r.wetLevel then r
    else
      let turned := { r with wetLevel := wetLevel, deadline := none }
      { turned with
        state := turned.atOnce
        capture := if turned.atOnce.taken = r.state.taken then r.capture else now }
  { levelled with zone := zone, qualify := qualify, selection := selection }

/-- The zones whose flags a SET WET INPUT recomputes, in ascending number: both zones of a move, and the mapped zone when the
taken state changed (R137, R138). -/
def WetInput.affected (old new : WetInput) : List (Fin 24) :=
  if old.zone = new.zone ∧ old.state.taken = new.state.taken then []
  else allZones.filter fun z => old.zone == some z || new.zone == some z

/-! ## Demand outputs (R141 to R146) -/

/-- The running period is active throughout: the duty in force is the period in force (R144). -/
def Output.fullDuty (o : Output) : Bool := decide (0 < o.dutyInForce ∧ o.dutyInForce = o.periodInForce)

/-- The period is in its active part: the time since its start is less than the duty in force, or the duty is the whole period,
which stays active across the boundary without a break (R144). -/
def Output.inDuty (o : Output) (now : Stamp) : Bool := decide (elapsed now o.start < o.dutyInForce) || o.fullDuty

/-- The level of an output, active or inactive: it falls at the increment that ends the duty (R144). -/
def Output.activeAt (o : Output) (now : Stamp) : Bool := o.enabled && o.driven && o.inDuty now

/-- The level of the pin under the polarity (R144). -/
def Output.pinHigh (o : Output) (now : Stamp) : Bool :=
  match o.polarity with
  | .activeHigh => o.activeAt now
  | .activeLow => !o.activeAt now

/-- The zones of an output's zone set. -/
def Output.zoneList (o : Output) : List (Fin 24) := allZones.filter fun z => o.zones.getLsbD z

/-- The margin of a zone formed now, for an enabled zone (R108, R143). -/
def State.marginNow (s : State) (z : Fin 24) : Option Int :=
  if (s.zone z).enabled then ((s.zone z).readings (s.surfaceMin z)).m else none

/-- The duty of a known smallest margin (R143, step 2); the division rounds down. -/
def dutyOf (band period : Nat) (w : Int) : Nat :=
  if w ≤ 0 then period else if (band : Int) ≤ w then 0 else (band - w).toNat * period / band

/-- The duty of a period, its basis and w, in AUTO or MANUAL mode, before the limit (R142 step 3, R143). -/
def State.duty (s : State) (o : Output) : Nat × Basis × Option Int :=
  match o.mode with
  | .manual => (o.manual, .manual, none)
  | .auto =>
    if o.zoneList.any fun z => (s.zone z).state == .condensing then (o.period, .condensing, none)
    else
      match (o.zoneList.filterMap s.marginNow).min? with
      | some w => (dutyOf o.band o.period w, .margin, some w)
      | none => (o.fallback, .fallback, none)

/-- A period boundary of an output, its next deadline one period on from `base` (R142). -/
def State.periodBoundary (s : State) (i : Fin 4) (base : Stamp) : State :=
  let o := s.output i
  let d := s.duty o
  let inForce := min d.1 o.period
  s.setOutput i
    { o with
      periodInForce := o.period, start := s.counter, dutyInForce := inForce, basis := d.2.1, w := d.2.2
      boundary := some (armAt base o.period), driven := decide (0 < inForce) }

/-- The active part of a period ends once the elapsed time has reached its duty; a full duty has no end (R144). -/
def Output.endDuty (o : Output) (now : Stamp) : Output :=
  if o.enabled && o.driven && !o.inDuty now then { o with driven := false } else o

/-- DUTY_END of an output (R144). -/
def State.dutyEnd (s : State) (i : Fin 4) : State := s.setOutput i ((s.output i).endDuty s.counter)

/-- A disabled output: the boundary deadline is disarmed and the runtime shows no period (R145). -/
def Output.stopped (o : Output) : Output :=
  { o with boundary := none, periodInForce := 0, dutyInForce := 0, basis := .none, w := none, driven := false }

/-- The ALERT line is re-evaluated (R149). -/
def State.refreshAlert (s : State) : State := { s with alert := s.alertNow }

end Sys2Proof.Machine
end

