-- ==== Sys2Proof/Machine/Line.lean ====
section
/-! DEFINITION. Symbols, frames, the receive assembler, the receive handshake and the transmitter: what the Field Port and the
Station Port have in common (R1 to R9, R16 to R18, R151, R160, R186). -/

namespace Sys2Proof.Machine

open Sys2Proof

/-! ## Symbols (R1, R186) -/

def symbolData (w : Symbol) : Byte := w.extractLsb' 0 8

/-- D8, the start marker. -/
def symbolMarked (w : Symbol) : Bool := w.getLsbD 8

/-- The number of ones among the ten bits. -/
def ones (w : Symbol) : Nat := ((List.range 10).map fun i => (w.getLsbD i).toNat).sum

/-- Good parity is an odd number of ones among the ten bits (R1). -/
def goodParity (w : Symbol) : Bool := ones w % 2 == 1

/-- A symbol as the part sends it: the marker on the first symbol of a frame, parity making the ones odd (R1). -/
def mkSymbol (b : Byte) (first : Bool) : Symbol :=
  let bare : Symbol := (BitVec.ofBool first ++ b).zeroExtend 10
  if goodParity bare then bare else bare ||| BitVec.twoPow 10 9

/-! ## Frames (R186) -/

def frameSum (f : List Byte) : Byte := f.foldl (· + ·) 0

/-- The check byte that makes all bytes sum to 0 modulo 256. -/
def checkByte (f : List Byte) : Byte := 0 - frameSum f

def withCheck (f : List Byte) : Frame := f ++ [checkByte f]

/-- A frame of the part's own: kind, address, length, payload, check byte. -/
def mkFrame (kind : Nat) (address : Byte) (payload : List Byte) : Frame :=
  withCheck (BitVec.ofNat 8 (16 * kind) :: address :: BitVec.ofNat 8 payload.length :: payload)

def kindSample : Nat := 1
def kindCommand : Nat := 4
def kindResponse : Nat := 5
def kindVerdict : Nat := 6

/-- The kind is the upper four bits of the kind byte (R48, R153). -/
def frameKind (f : Frame) : Nat := (f.getD 0 0).toNat / 16

def frameAddress (f : Frame) : Byte := f.getD 1 0

def frameLength (f : Frame) : Nat := (f.getD 2 0).toNat

def framePayload (f : Frame) : List Byte := (f.drop 3).take (frameLength f)

/-- Writes the attention mark and the top notice into the kind byte, and the check byte afresh (R159, steps 3 and 4). -/
def markFrame (n : NoticeSets) (f : Frame) : Frame :=
  match f with
  | [] => []
  | kind :: rest =>
    withCheck (BitVec.ofNat 8 (16 * (kind.toNat / 16) + 8 * n.attention.toNat + n.top) :: rest.dropLast)

/-! ## The receive assembler (R3 to R9) -/

/-- A marked symbol begins a frame: a new record with the kind byte at position 1 (R4). -/
def beginFrame (w : Symbol) : FrameRecord :=
  { bytes := [symbolData w], len := none, damaged := !goodParity w, addrParity := none, stamp := none }

/-- An unmarked symbol continues the frame (R5); only the field assembler keeps the address-parity indication (R151). -/
def continueFrame (keepAddress : Bool) (r : FrameRecord) (w : Symbol) : Arrival :=
  let next : FrameRecord :=
    { r with bytes := r.bytes ++ [symbolData w], damaged := r.damaged || !goodParity w }
  match r.bytes.length + 1 with
  | 2 => .quiet (.receiving { next with addrParity := if keepAddress then some (goodParity w) else none })
  | 3 =>
    if (symbolData w).toNat ≤ Config.longestPayload then .quiet (.receiving { next with len := some (symbolData w).toNat })
    else .faulty .overlength .hunt
  | position =>
    match r.len with
    | some n => if position = n + 4 then .complete next else .quiet (.receiving next)
    | none => .quiet (.receiving next)

/-- A symbol arrival in each state of the assembler (R4, R5, R6, R8). In HOLD none is sampled (R2). -/
def Assembler.arrive (keepAddress : Bool) (a : Assembler) (w : Symbol) : Arrival :=
  match a with
  | .idle => if symbolMarked w then .quiet (.receiving (beginFrame w)) else .faulty .stray .idle
  | .hunt => if symbolMarked w then .quiet (.receiving (beginFrame w)) else .quiet .hunt
  | .receiving r =>
    if symbolMarked w then .faulty .truncated (.receiving (beginFrame w)) else continueFrame keepAddress r w
  | .hold r => .quiet (.hold r)

/-- The judgement at completion: damaged before check failed (R9). -/
def FrameRecord.judge (r : FrameRecord) : Judgement :=
  if r.damaged then .damaged else if frameSum r.bytes = 0 then .good else .checkFailed

/-- The inter-symbol timer runs in RECEIVING and in no other state (R7). -/
def Assembler.timerRunning : Assembler → Bool
  | .receiving _ => true
  | _ => false

/-- The assembler withholds an acknowledge. -/
def Assembler.holding : Assembler → Bool
  | .hold _ => true
  | _ => false

/-- The subject of a defect found on the field side (R14). -/
def Defect.field : Defect → LineSubject
  | .stray => .fieldStray | .truncated => .fieldTruncated | .timeout => .fieldTimeout
  | .overlength => .fieldOverlength | .parity => .fieldParity | .check => .fieldCheck

/-- The subject of a defect found on the station side (R151). -/
def Defect.station : Defect → LineSubject
  | .stray => .stationStray | .truncated => .stationTruncated | .timeout => .stationTimeout
  | .overlength => .stationOverlength | .parity => .stationParity | .check => .stationCheck

/-! ## The receive handshake (R2) -/

/-- The pair takes a rising strobe as an arrival: the strobe has been seen low and the acknowledge has fallen. -/
def Receiver.ready (r : Receiver) : Bool := !r.strobe && !r.ack

/-- The strobe rises. -/
def Receiver.rise (r : Receiver) : Receiver := { r with strobe := true }

/-- The acknowledge is raised; it falls again at once if the strobe is already low. -/
def Receiver.acknowledge (r : Receiver) : Receiver := { r with ack := r.strobe }

/-- The strobe falls, and the acknowledge with it. -/
def Receiver.fall (_r : Receiver) : Receiver := { strobe := false, ack := false }

/-! ## The transmitter (R16 to R18) -/

def Transmitter.isIdle (t : Transmitter) : Bool := t.sender == .idle

/-- With its symbol not yet presented and the acknowledge low, the transmitter places the symbol and raises the strobe
(R17, step 2). -/
def Transmitter.present (t : Transmitter) : Transmitter :=
  match t.sender with
  | .idle => t
  | .sending f p =>
    if t.ack || t.strobe then t else { t with data := mkSymbol (f.getD (p - 1) 0) (p == 1), strobe := true }

/-- Begins a frame with its first symbol (R16). -/
def Transmitter.start (t : Transmitter) (f : Frame) : Transmitter :=
  Transmitter.present { t with sender := .sending f 1, strobe := false }

/-- The acknowledge rises. The rise that an abandoned symbol still owes is the acknowledge of no symbol, even with the next
frame's first symbol on the line (R18; notes/assumptions/16.md). Otherwise it is the acknowledge of the symbol presented: the
strobe is lowered, and the frame goes on or, after its last symbol, the transmitter returns to IDLE (R17, steps 3 and 4). With
none presented it is disregarded. -/
def Transmitter.ackRise (t : Transmitter) : Transmitter :=
  if t.ack then t
  else if t.owed then { t with ack := true, owed := false }
  else
    match t.sender with
    | .idle => { t with ack := true }
    | .sending f p =>
      if t.strobe then
        { t with ack := true, strobe := false, sender := if p < f.length then .sending f (p + 1) else .idle }
      else { t with ack := true }

/-- The acknowledge falls, and a waiting symbol is presented (R17, step 2). -/
def Transmitter.ackFall (t : Transmitter) : Transmitter := Transmitter.present { t with ack := false }

/-- The allowance has run out: the frame is abandoned, and a symbol presented without an acknowledge owes its rise (R18). -/
def Transmitter.abandon (t : Transmitter) : Transmitter :=
  { t with sender := .idle, strobe := false, owed := t.owed || (t.strobe && !t.ack) }

/-- The transmit allowance runs in SENDING and not otherwise (R18). -/
def Transmitter.allowanceRunning (t : Transmitter) : Bool := !t.isIdle

end Sys2Proof.Machine
end

