-- ==== Sys2Proof/Machine/Psychro.lean ====
section
/-! DEFINITION. The psychrometric arithmetic: rounding, calibration, and the seven stages of an air conversion (spec/04). -/

namespace Sys2Proof.Machine

open Sys2Proof

/-- A quotient a / b of non-negative whole numbers, rounded once by the mode in force (R63). -/
def roundQuotient (mode : Rounding) (a b : Nat) : Nat :=
  let q := a / b
  let r := a % b
  if r = 0 then q
  else
    match mode with
    | .down => q
    | .up => q + 1
    | .nearest => if 2 * r < b then q else if b < 2 * r then q + 1 else if q % 2 = 0 then q else q + 1

/-- A code above 4095 is limited to 4095 before use (R49). -/
def limitCode (c : Nat) : Nat := min c 4095

/-- low + round((high − low) × code / 4095) + trim, before its limit (R68). -/
def calibrate (mode : Rounding) (low high trim : Int) (code : Nat) : Int :=
  low + roundQuotient mode ((high - low).toNat * code) 4095 + trim

/-- The calibrated temperature of channel A, limited to −4000 … 8500 (R68). -/
def calibrateA (mode : Rounding) (p : ProbeLoad) (code : Nat) : Int :=
  clampTo (-4000) 8500 (calibrate mode p.aLow p.aHigh p.aTrim code)

/-- The calibrated humidity of channel B, limited to −1000 … 11000 (R68). -/
def calibrateB (mode : Rounding) (p : ProbeLoad) (code : Nat) : Int :=
  clampTo (-1000) 11000 (calibrate mode p.bLow p.bHigh p.bTrim code)

/-- The temperature of knot i (R53). -/
def Curve.knot (c : Curve) (i : Nat) : Int := c.base + i * c.step

/-- The number of knots (R53). -/
def Curve.n (c : Curve) : Nat := c.values.length

/-- The saturation pressure at knot i. -/
def Curve.es (c : Curve) (i : Nat) : Nat := c.values.getD i 0

/-- The top knot (R53). -/
def Curve.top (c : Curve) : Int := c.knot (c.n - 1)

/-- The largest index at most k with the property, 0 when there is none. -/
def lastIndex (p : Nat → Bool) : Nat → Nat
  | 0 => 0
  | k + 1 => if p (k + 1) then k + 1 else lastIndex p k

/-- Stage 4: the saturation pressure at T, by linear interpolation on the curve (R71). -/
def saturationAt (mode : Rounding) (c : Curve) (t : Int) : Nat :=
  let i := lastIndex (fun i => decide (c.knot i ≤ t)) (c.n - 2)
  c.es i + roundQuotient mode ((c.es (i + 1) - c.es i) * (t - c.knot i).toNat) c.step

/-- Stage 5: the vapour pressure of the air (R72). -/
def vapourPressure (mode : Rounding) (es : Nat) (rh : Int) : Nat := roundQuotient mode (es * rh.toNat) 10000

/-- Stage 6 above es_0: the temperature at which e would be the saturation pressure (R73). -/
def invertCurve (mode : Rounding) (c : Curve) (e : Nat) : Int :=
  let j := lastIndex (fun j => decide (c.es j ≤ e)) (c.n - 2)
  c.knot j + roundQuotient mode (c.step * (e - c.es j)) (c.es (j + 1) - c.es j)

/-- A condition that arises sets its sticky flag (R66). -/
def Conversion.raise (v : Conversion) (c : Condition) : Conversion := { v with sticky := v.sticky ||| c.bit }

/-- An unmasked condition stops the conversion: it posts ARITH and gives no result (R75). -/
def Conversion.stop (v : Conversion) (c : Condition) : Conversion := { v with posted := v.posted ||| c.bit, dew := none }

/-- Stages 6 and 7: the dew point is the smaller of the inverted temperature and T; below es_0 LOW_VAPOUR arises
(R73, R74). -/
def dewStage (a : Arithmetic) (c : Curve) (t : Int) (e : Nat) (v : Conversion) : Conversion :=
  if e < c.es 0 then
    let raised := v.raise .lowVapour
    if a.masked.has .lowVapour then { raised with dew := some (min c.base t) } else raised.stop .lowVapour
  else { v with dew := some (min (invertCurve a.mode c e) t) }

/-- Stages 4 to 7 with T in the span and RH in 0 … 10000 (R71 to R74). -/
def pressureStage (a : Arithmetic) (c : Curve) (t rh : Int) (v : Conversion) : Conversion :=
  dewStage a c t (vapourPressure a.mode (saturationAt a.mode c t) rh) v

/-- Stage 3: the humidity against 0 … 10000 (R70). -/
def humidityStage (a : Arithmetic) (c : Curve) (t rh : Int) (v : Conversion) : Conversion :=
  if 10000 < rh then
    let raised := v.raise .saturated
    if a.masked.has .saturated then pressureStage a c t 10000 raised else raised.stop .saturated
  else if rh < 0 then
    let raised := v.raise .negativeRh
    if a.masked.has .negativeRh then pressureStage a c t 0 raised else raised.stop .negativeRh
  else pressureStage a c t rh v

/-- Stage 2: T against the span of the curve in force (R69). -/
def spanStage (a : Arithmetic) (c : Curve) (t rh : Int) (v : Conversion) : Conversion :=
  if t < c.base ∨ c.top < t then
    let raised := v.raise .overrangeT
    if a.masked.has .overrangeT then humidityStage a c (if t < c.base then c.base else c.top) rh raised
    else raised.stop .overrangeT
  else humidityStage a c t rh v

/-- The conversion of an air sample: the deferred marks are posted at the start of stage 1 (R67), then the stages run. -/
def convertAir (a : Arithmetic) (c : Curve) (sticky deferred : Conditions) (p : ProbeLoad) (codeA codeB : Nat) :
    Conversion :=
  spanStage a c (calibrateA a.mode p codeA) (calibrateB a.mode p codeB)
    { sticky := sticky, posted := deferred, dew := none }

/-- The conversion of a surface or water sample: channel A alone, the credit added for WATER and limited again (R77). -/
def convertSurface (mode : Rounding) (p : ProbeLoad) (codeA : Nat) : Int :=
  match p.kind with
  | .water => clampTo (-4000) 8500 (calibrateA mode p codeA + p.credit)
  | _ => calibrateA mode p codeA

end Sys2Proof.Machine
end

