-- ==== Sys2Proof/Machine/Probes.lean ====
section
/-! DEFINITION. The Probe Table and the Intake Classifier (spec/03). -/

namespace Sys2Proof.Machine

open Sys2Proof

/-! ## The table (R33) -/

def State.findProbe (s : State) (a : Byte) : Option ProbeEntry := s.probes.find? fun e => e.load.address == a

/-- Inserts an entry at the position its address gives, or replaces the entry of that address in place (R33). -/
def insertProbe (e : ProbeEntry) : List ProbeEntry → List ProbeEntry
  | [] => [e]
  | x :: rest =>
    if x.load.address = e.load.address then e :: rest
    else if e.load.address.toNat < x.load.address.toNat then e :: x :: rest
    else x :: insertProbe e rest

/-- Replaces the entry of the same address; a table without it stays as it is. -/
def replaceProbe (e : ProbeEntry) (t : List ProbeEntry) : List ProbeEntry :=
  t.map fun x => if x.load.address = e.load.address then e else x

/-- Removes the entry of an address and closes the gap (R33, R37). -/
def removeProbe (a : Byte) (t : List ProbeEntry) : List ProbeEntry := t.filter fun x => x.load.address != a

/-- E × M (R24 limits it when the deadline is formed). -/
def ProbeLoad.silenceTime (p : ProbeLoad) : Nat := p.interval * p.misses

/-- A loaded part with its runtime part as LOAD PROBE and RESTART EVALUATION set it (R35, R45). -/
def ProbeLoad.fresh (p : ProbeLoad) (now : Stamp) : ProbeEntry :=
  { load := p, state := .unseen, lastArrival := none, lastValue := .absent, damaged := 0
    silence := some (setDeadline now now p.silenceTime) }

/-- Writes an entry's new runtime part; a change of its contribution evaluates its zone (R44). -/
def State.updateProbe (s : State) (e e' : ProbeEntry) : State :=
  let written := s.setProbes (replaceProbe e' s.probes)
  if e.contribution = e'.contribution then written else written.evaluate e.load.zone

/-! ## Supervision (R40 to R43) -/

/-- A silence expiry on an entry: STALE, deadline disarmed, PROBE_LOST posted (R41). -/
def State.silenceExpiry (s : State) (e : ProbeEntry) : State :=
  (s.updateProbe e { e with state := .stale, silence := none }).post (.probeLost e.load.address)

/-- One damaged frame counted against an entry; the third makes it FAULTY (R42). -/
def State.countDamage (s : State) (e : ProbeEntry) : State :=
  if e.state = .faulty then s
  else if e.damaged + 1 < Config.faultyCount then s.updateProbe e { e with damaged := e.damaged + 1 }
  else
    (s.updateProbe e { e with damaged := Config.faultyCount, state := .faulty, silence := none }).post
      (.probeLost e.load.address)

/-- A damaged-frame report for an address byte; none tabled, no effect (R42). -/
def State.damagedReport (s : State) (a : Byte) : State :=
  match s.findProbe a with
  | none => s
  | some e => s.countDamage e

/-! ## The Intake Classifier (R47 to R51) -/

/-- What R48's table does with a frame. -/
inductive Treatment where
  | sample (e : ProbeEntry)
  | wrongLength (e : ProbeEntry)
  | plain
  deriving DecidableEq, Repr

/-- The treatment of a frame under the Probe Table as it stands (R48). -/
def State.treatment (s : State) (f : Frame) : Treatment :=
  if frameKind f = kindSample then
    match s.findProbe (frameAddress f) with
    | some e => if frameLength f = 5 then .sample e else .wrongLength e
    | none => .plain
  else .plain

/-- The disposition of a frame: its entry's action, or FORWARD (R48). -/
def Treatment.action : Treatment → Action
  | .sample e => e.load.action
  | .wrongLength e => e.load.action
  | .plain => .forward

/-- The probe status of a SAMPLE payload. -/
def sampleStatus (f : Frame) : Nat := u8 (framePayload f) 0

def sampleCodeA (f : Frame) : Nat := limitCode (u16 (framePayload f) 1)

def sampleCodeB (f : Frame) : Nat := limitCode (u16 (framePayload f) 3)

/-- The entry of a good SAMPLE, updated before anything else is done with it (R40). -/
def ProbeEntry.heard (e : ProbeEntry) (now stamp : Stamp) : ProbeEntry :=
  { e with
    state := .live, damaged := 0, lastArrival := some stamp
    silence := some (setDeadline now stamp e.load.silenceTime) }

/-- What an air conversion leaves in the Psychrometric Unit: sticky flags, deferred marks cleared, ARITH posted
(R66, R67, R75). -/
def State.afterConversion (s : State) (v : Conversion) : State :=
  { s with sticky := v.sticky, deferred := 0, noticePending := s.noticePending.postConditions v.posted }

/-- A good SAMPLE from an AIR entry: VOID pushed, a dew point pushed, or nothing pushed (R49, R76). -/
def State.airSample (s : State) (e : ProbeEntry) (f : IntakeFrame) : State :=
  let heard := s.setProbes (replaceProbe (e.heard s.counter f.stamp) s.probes)
  if sampleStatus f.bytes ≠ 0 then heard.push e.load.zone f.stamp none
  else
    let v := convertAir s.arith s.curve s.sticky s.deferred e.load (sampleCodeA f.bytes) (sampleCodeB f.bytes)
    match v.dew with
    | some d => (heard.afterConversion v).push e.load.zone f.stamp (some d)
    | none => heard.afterConversion v

/-- The last value of a SURFACE or WATER entry after a good SAMPLE (R50, R76). -/
def surfaceValue (s : State) (e : ProbeEntry) (f : Frame) : LastValue :=
  if sampleStatus f ≠ 0 then .void else .value (convertSurface s.arith.mode e.load (sampleCodeA f))

/-- A good SAMPLE from a SURFACE or WATER entry (R50, R44). -/
def State.surfaceSample (s : State) (e : ProbeEntry) (f : IntakeFrame) : State :=
  s.updateProbe e { e.heard s.counter f.stamp with lastValue := surfaceValue s e f.bytes }

/-- A good SAMPLE, by the entry's kind (R40, R49, R50). -/
def State.goodSample (s : State) (e : ProbeEntry) (f : IntakeFrame) : State :=
  match e.load.kind with
  | .air => s.airSample e f
  | _ => s.surfaceSample e f

def State.treat (s : State) (f : IntakeFrame) : Treatment → State
  | .sample e => s.goodSample e f
  | .wrongLength e => s.countDamage e
  | .plain => s

/-- The head leaves the intake queue; a held frame takes the freed place with its stamp, FRACK is raised and the assembler
returns to IDLE (R12, R13). -/
def State.removeHead (s : State) (rest : List IntakeFrame) : State :=
  match s.fieldAsm with
  | .hold r =>
    { s with
      intake := rest ++ [{ bytes := r.bytes, stamp := r.stamp.getD s.counter }]
      fieldRx := s.fieldRx.acknowledge, fieldAsm := .idle }
  | _ => { s with intake := rest }

/-- The head can be finished: ABSORB, or room in the forward queue (R47). -/
def State.finishable (s : State) (t : Treatment) : Bool :=
  match t.action with
  | .absorb => true
  | .forward => decide (s.forward.length < Config.forwardRoom)

/-- FORWARD places the bytes as received at the tail of the forward queue; ABSORB discards them (R51). -/
def State.dispose (s : State) (f : Frame) : Action → State
  | .forward => { s with forward := s.forward ++ [f] }
  | .absorb => s

/-- The classifier takes a finishable head; otherwise it waits (R47). -/
def State.takeHead (s : State) : State :=
  match s.intake with
  | [] => s
  | f :: rest =>
    let t := s.treatment f.bytes
    if s.finishable t then ((s.removeHead rest).treat f t).dispose f.bytes t.action else s

end Sys2Proof.Machine
end

