-- ==== Sys2Proof/Machine/Commands.lean ====
section
/-! DEFINITION. What each command of the station controller does and answers (R165 to R174, R188). A command's answer is a
result, the data of its RESPONSE, and the state it leaves; `f` is the payload after the command code. -/

namespace Sys2Proof.Machine

open Sys2Proof

/-- The judgement of a command: result, data, and the state after it. -/
structure Answer where
  result : Result
  data   : List Byte
  state  : State
  deriving DecidableEq, Repr

/-- A refused command changes nothing and carries no data (R166, R167). -/
def refuse (r : Result) (s : State) : Answer := { result := r, data := [], state := s }

def done (data : List Byte) (s : State) : Answer := { result := .done, data := data, state := s }

/-- The length check comes before any field is read (R168). -/
def sized (n : Nat) (f : List Byte) (s : State) (a : Answer) : Answer := if f.length = n then a else refuse .length s

/-- A command that names a zone: RANGE outside 0 … 23. -/
def withZone (n : Nat) (s : State) (k : Fin 24 → Answer) : Answer :=
  match zoneOf n with
  | some z => k z
  | none => refuse .range s

/-- A command that names a wet input or a demand output: RANGE outside 0 … 3. -/
def withUnit (n : Nat) (s : State) (k : Fin 4 → Answer) : Answer :=
  match unitOf n with
  | some i => k i
  | none => refuse .range s

/-! ## Time (R29) -/

def readTime (f : List Byte) (s : State) : Answer := sized 0 f s (done (b24 s.counter) s)

/-! ## Probe Table (R34 to R39) -/

/-- The range checks of LOAD PROBE on its fields (R34). -/
def ProbeLoad.inRange (p : ProbeLoad) : Bool :=
  decide (1 ≤ p.address.toNat ∧ p.address.toNat ≤ 126)
    && decide (-4000 ≤ p.aLow ∧ p.aLow < p.aHigh ∧ p.aHigh ≤ 8500 ∧ -500 ≤ p.aTrim ∧ p.aTrim ≤ 500)
    && decide (10 ≤ p.interval ∧ p.interval ≤ 6000 ∧ 1 ≤ p.misses ∧ p.misses ≤ 15)
    && (p.kind != .air
      || decide (-1000 ≤ p.bLow ∧ p.bLow < p.bHigh ∧ p.bHigh ≤ 11000 ∧ -500 ≤ p.bTrim ∧ p.bTrim ≤ 500))
    && decide (p.credit ≤ 1000)

/-- The loaded part a LOAD PROBE payload spells: channel B is stored as 0 unless AIR, the credit as 0 unless WATER (R34). -/
def readLoad (f : List Byte) : Option ProbeLoad :=
  match ProbeKind.ofCode (u8 f 1), zoneOf (u8 f 2), Action.ofCode (u8 f 3) with
  | some kind, some zone, some action =>
    let air := kind == .air
    let p : ProbeLoad :=
      { address := f.getD 0 0, kind := kind, zone := zone, action := action
        aLow := s16 f 4, aHigh := s16 f 6, aTrim := s16 f 8
        bLow := if air then s16 f 10 else 0, bHigh := if air then s16 f 12 else 0, bTrim := if air then s16 f 14 else 0
        interval := u16 f 16, misses := u8 f 18, credit := if kind == .water then u16 f 19 else 0 }
    if p.inRange then some p else none
  | _, _, _ => none

/-- The 21 field bytes of a loaded part (R188). -/
def ProbeLoad.field (p : ProbeLoad) : List Byte :=
  [p.address] ++ b8 p.kind.code ++ b8 p.zone ++ b8 p.action.code ++ i16 p.aLow ++ i16 p.aHigh ++ i16 p.aTrim
    ++ i16 p.bLow ++ i16 p.bHigh ++ i16 p.bTrim ++ b16 p.interval ++ b8 p.misses ++ b16 p.credit

/-- A replaced entry's zone is evaluated when the zone or kind changed, or its contribution ended (R36). -/
def ProbeEntry.disturbed (old : ProbeEntry) (p : ProbeLoad) : Bool :=
  old.load.zone != p.zone || old.load.kind != p.kind || old.contribution.isSome

def loadProbe (f : List Byte) (s : State) : Answer :=
  sized 21 f s <|
    match readLoad f with
    | none => refuse .range s
    | some p =>
      let written := s.setProbes (insertProbe (p.fresh s.counter) s.probes)
      match s.findProbe p.address with
      | none =>
        if s.probes.length < Config.probeRoom then done (b8 written.probes.length ++ b8 1) written else refuse .full s
      | some old =>
        done (b8 written.probes.length ++ b8 2) (if old.disturbed p then written.evaluate old.load.zone else written)

/-- A probe address in 1 … 126 (R37, R38). -/
def probeAddress (a : Byte) : Bool := decide (1 ≤ a.toNat ∧ a.toNat ≤ 126)

/-- The entry leaves the table and its address both PROBE_LOST sets; its zone is evaluated (R37, R184). -/
def State.dropEntry (s : State) (e : ProbeEntry) : State :=
  let a := e.load.address
  State.evaluate
    { s with
      probes := removeProbe a s.probes
      noticePending := s.noticePending.dropProbe a, noticeArmed := s.noticeArmed.dropProbe a } e.load.zone

def dropProbe (f : List Byte) (s : State) : Answer :=
  sized 1 f s <|
    let a := f.getD 0 0
    if probeAddress a then
      match s.findProbe a with
      | none => refuse .absent s
      | some e => done (b8 (removeProbe a s.probes).length) (s.dropEntry e)
    else refuse .range s

def ProbeEntry.field (e : ProbeEntry) : List Byte :=
  e.load.field ++ b8 e.state.code ++ stamped e.lastArrival ++ e.lastValue.field ++ b8 e.damaged ++ deadlineField e.silence

def readProbe (f : List Byte) (s : State) : Answer :=
  sized 1 f s <|
    let a := f.getD 0 0
    if probeAddress a then
      match s.findProbe a with
      | none => refuse .absent s
      | some e => done e.field s
    else refuse .range s

def listProbes (f : List Byte) (s : State) : Answer :=
  sized 1 f s <|
    if u8 f 0 ≤ 95 then
      let listed := ((s.probes.drop (u8 f 0)).take 12).map fun e => e.load.address
      done (b8 s.probes.length ++ b8 listed.length ++ listed) s
    else refuse .range s

/-! ## Zones (R96, R97, R113, R124, R125, R109, R89, R88) -/

/-- A, I, L and G in their ranges (R96). -/
def zoneConfigInRange (a i l g : Nat) : Bool :=
  decide (100 ≤ a ∧ a ≤ 36000) && decide (i = 0 ∨ (100 ≤ i ∧ i ≤ 6000)) && decide (l ≤ 15) && decide (g ≤ 6000)

/-- SET ZONE on the record: a changed A recomputes the occupied slots, a changed I restarts an enabled zone's trend
(R97, R86, R103). -/
def Zone.configure (now : Stamp) (a i l g : Nat) (z : Zone) : Zone :=
  let aged : Zone := if a = z.age then z else { z with age := a, slots := z.slots.map (Slot.recompute now a) }
  let set : Zone := { aged with interval := i, lookahead := l, grace := g }
  if i ≠ z.interval ∧ z.enabled = true then set.restartTrend now else set

def setZone (f : List Byte) (s : State) : Answer :=
  sized 8 f s <| withZone (u8 f 0) s fun z =>
    let a := u16 f 1; let i := u16 f 3; let l := u8 f 5; let g := u16 f 6
    if zoneConfigInRange a i l g then
      done (b8 z ++ b16 a ++ b16 i ++ b8 l ++ b16 g) (s.setZone z ((s.zone z).configure s.counter a i l g))
    else refuse .range s

/-- 1 ≤ K < W ≤ 3000, H ≤ 500, P ≤ 36000 (R113). -/
def Thresholds.inRange (t : Thresholds) : Bool :=
  decide (1 ≤ t.k ∧ t.k < t.w ∧ t.w ≤ 3000 ∧ t.h ≤ 500 ∧ t.p ≤ 36000)

def stageThresholds (f : List Byte) (s : State) : Answer :=
  sized 9 f s <| withZone (u8 f 0) s fun z =>
    let t : Thresholds := { w := u16 f 1, k := u16 f 3, h := u16 f 5, p := u16 f 7 }
    if t.inRange then
      done (b8 z ++ thresholdsField (s.zone z).active ++ thresholdsField t)
        (s.setZone z { s.zone z with staged := some t })
    else refuse .range s

/-- The zone number and the state after the command (R124, R125). -/
def zoneAnswer (z : Fin 24) (s : State) : Answer := done (b8 z ++ b8 (s.zone z).state.code) s

def enableZone (f : List Byte) (s : State) : Answer :=
  sized 1 f s <| withZone (u8 f 0) s fun z =>
    if (s.zone z).enabled then zoneAnswer z s
    else zoneAnswer z (s.applyDecision z ((s.zone z).enable s.counter (s.surfaceMin z)))

def disableZone (f : List Byte) (s : State) : Answer :=
  sized 1 f s <| withZone (u8 f 0) s fun z =>
    if (s.zone z).enabled then zoneAnswer z (s.applyDecision z ((s.zone z).disable (s.surfaceMin z)))
    else zoneAnswer z s

/-- The persistence part of READ ZONE: armed, deadline, stored candidate (R109, R187). -/
def persistenceField (p : Option Persistence) : List Byte :=
  deadlineField (p.map Persistence.arming)
    ++ b8 ((p.map fun p => p.candidate.state.code).getD 0)

/-- The 54 data bytes of READ ZONE (R109, R188). -/
def zoneField (s : State) (n : Fin 24) : List Byte :=
  let z := s.zone n
  let r := z.readings (s.surfaceMin n)
  b8 n ++ flag z.enabled ++ b16 z.age ++ b16 z.interval ++ b8 z.lookahead ++ b16 z.grace
    ++ thresholdsField z.active
    ++ flag z.staged.isSome ++ thresholdsField (z.staged.getD { w := 0, k := 0, h := 0, p := 0 })
    ++ b8 z.state.code
    ++ known r.d ++ known r.s ++ known r.m ++ known (z.projected (s.surfaceMin n)) ++ b8 (outcomeOf r.m).code
    ++ known z.trendStart ++ known z.slope
    ++ flag z.wet
    ++ deadlineField z.trendDeadline ++ persistenceField z.persistence ++ deadlineField z.blind

def readZone (f : List Byte) (s : State) : Answer :=
  sized 1 f s <| withZone (u8 f 0) s fun z => done (zoneField s z) s

/-- One slot of READ WINDOW: tag, stamp, dew point (R89). -/
def Slot.field (k : Slot) : List Byte := b8 k.tagCode ++ b24 (k.stamp.getD 0) ++ known k.dew

/-- The 54 data bytes of READ WINDOW (R89, R188). -/
def windowField (s : State) (n : Fin 24) : List Byte :=
  let z := s.zone n
  b8 n ++ b8 z.top ++ b16 z.age ++ known z.dew ++ z.slots.toList.flatMap Slot.field

def readWindow (f : List Byte) (s : State) : Answer :=
  sized 1 f s <| withZone (u8 f 0) s fun z => done (windowField s z) s

def clearWindow (f : List Byte) (s : State) : Answer :=
  sized 1 f s <| withZone (u8 f 0) s fun z =>
    let r := s.zone z
    done (b8 z ++ b8 r.top ++ b8 r.occupied)
      (if r.enabled then (s.setZone z r.emptyWindow).evaluate z else s)

/-! ## Curve (R56 to R61) -/

/-- The expected index: the number of staged values, 0 in EMPTY (R55, R61). -/
def Staging.expected : Staging → Nat
  | .empty => 0
  | .filling _ _ _ vs => vs.length
  | .full _ _ _ vs => vs.length

def stagingField (g : Staging) : List Byte := b8 g.code ++ b8 g.expected

/-- The range checks of CURVE BEGIN (R56). -/
def curveInRange (base : Int) (step n : Nat) : Bool :=
  decide (-4000 ≤ base ∧ base ≤ 8500) && decide (50 ≤ step ∧ step ≤ 1000) && decide (2 ≤ n ∧ n ≤ 32)
    && decide (base + ((n - 1 : Nat) : Int) * step ≤ 8500)

def curveBegin (f : List Byte) (s : State) : Answer :=
  sized 5 f s <|
    let base := s16 f 0; let step := u16 f 2; let n := u8 f 4
    if curveInRange base step n then
      let g : Staging := .filling base step n []
      done (stagingField g) { s with staging := g }
    else refuse .range s

/-- The knot values a CURVE POINTS payload carries, (payload length − 2) / 2 of them (R168). -/
def pointValues (f : List Byte) : List Nat := (List.range ((f.length - 1) / 2)).map fun i => u16 f (1 + 2 * i)

/-- The staging buffer after accepted values: FULL when all n are present (R57). -/
def stage (base : Int) (step n : Nat) (vs : List Nat) : Staging :=
  if vs.length = n then .full base step n vs else .filling base step n vs

def curvePoints (f : List Byte) (s : State) : Answer :=
  if f.length % 2 = 1 ∧ 3 ≤ f.length ∧ f.length ≤ 33 then
    let index := u8 f 0
    let values := pointValues f
    if 31 < index ∨ values.any (fun v => v == 0) = true then refuse .range s
    else
      match s.staging with
      | .filling base step n vs =>
        if index = vs.length ∧ index + values.length ≤ n then
          let g := stage base step n (vs ++ values)
          done (stagingField g) { s with staging := g }
        else refuse .sequence s
      | _ => refuse .sequence s
  else refuse .length s

/-- The lowest index whose value is not greater than the one before it (R58). -/
def firstUnordered (vs : List Nat) : Option Nat :=
  (List.range vs.length).find? fun i => decide (1 ≤ i ∧ vs.getD i 0 ≤ vs.getD (i - 1) 0)

def curveCommit (f : List Byte) (s : State) : Answer :=
  sized 0 f s <|
    match s.staging with
    | .full base step _ vs =>
      match firstUnordered vs with
      | some i => { result := .curve, data := b8 i, state := s }
      | none => done [] { s with curve := { base := base, step := step, values := vs }, staging := .empty }
    | _ => refuse .sequence s

def restoreCurve (f : List Byte) (s : State) : Answer := sized 0 f s (done [] { s with curve := Curve.builtIn })

def readCurve (f : List Byte) (s : State) : Answer :=
  sized 1 f s <|
    let start := u8 f 0
    if start ≤ 31 then
      let vs := (s.curve.values.drop start).take 16
      done (i16 s.curve.base ++ b16 s.curve.step ++ b8 s.curve.n ++ b8 start ++ b8 vs.length ++ vs.flatMap b16
          ++ stagingField s.staging) s
    else refuse .range s

/-! ## Arithmetic control (R64 to R66) -/

/-- Mode, masks, sticky flags and deferred marks (R188). -/
def arithmeticField (s : State) : List Byte :=
  b8 s.arith.mode.code ++ set4 s.arith.masked ++ set4 s.sticky ++ set4 s.deferred

/-- The four mask settings, as a set of masked conditions in the order of their codes. -/
def masksOf (f : List Byte) (i : Nat) : Option Conditions :=
  match maskOf (u8 f i), maskOf (u8 f (i + 1)), maskOf (u8 f (i + 2)), maskOf (u8 f (i + 3)) with
  | some a, some b, some c, some d =>
    some (BitVec.ofBool d ++ BitVec.ofBool c ++ BitVec.ofBool b ++ BitVec.ofBool a)
  | _, _, _, _ => none

/-- The deferred marks after SET ARITHMETIC: set where a condition is unmasked with its sticky flag set, cleared where it is
left masked, else unchanged (R64). -/
def deferredAfter (before after sticky deferred : Conditions) : Conditions :=
  (deferred ||| (before &&& sticky)) &&& ~~~after

def setArithmetic (f : List Byte) (s : State) : Answer :=
  sized 5 f s <|
    match Rounding.ofCode (u8 f 0), masksOf f 1 with
    | some mode, some masked =>
      let next : State :=
        { s with
          arith := { mode := mode, masked := masked }
          deferred := deferredAfter s.arith.masked masked s.sticky s.deferred }
      done (arithmeticField next) next
    | _, _ => refuse .range s

def readArithmetic (f : List Byte) (s : State) : Answer := sized 0 f s (done (arithmeticField s) s)

def clearSticky (f : List Byte) (s : State) : Answer := sized 0 f s (done [] { s with sticky := 0, deferred := 0 })

/-! ## Demand outputs (R145 to R147) -/

/-- The 27-byte output record (R188). -/
def outputField (i : Fin 4) (o : Output) : List Byte :=
  b8 i ++ flag o.enabled ++ b24 o.zones ++ b16 o.band ++ b16 o.period ++ b16 o.fallback ++ b8 o.polarity.code
    ++ b8 o.mode.code ++ b16 o.manual ++ b16 o.periodInForce ++ b16 o.dutyInForce ++ b24 o.start
    ++ deadlineField o.boundary ++ b8 o.basis.code

/-- The effect of SET OUTPUT once its fields are written as `new` (R145). -/
def State.applyOutput (s : State) (i : Fin 4) (new : Output) : State :=
  match (s.output i).enabled, new.enabled with
  | false, true => (s.setOutput i new).periodBoundary i s.counter
  | true, false => s.setOutput i new.stopped
  | _, _ => s.setOutput i new

def setOutput (f : List Byte) (s : State) : Answer :=
  sized 12 f s <| withUnit (u8 f 0) s fun i =>
    match yesNoOf (u8 f 1), Polarity.ofCode (u8 f 11) with
    | some enabled, some polarity =>
      let band := u16 f 5; let period := u16 f 7; let fallback := u16 f 9
      if 50 ≤ band ∧ band ≤ 3000 ∧ 10 ≤ period ∧ period ≤ 6000 ∧ fallback ≤ 6000 then
        let next := s.applyOutput i
          { s.output i with
            enabled := enabled, zones := zoneSet f 2, band := band, period := period, fallback := fallback
            polarity := polarity }
        done (outputField i (next.output i)) next
      else refuse .range s
    | _, _ => refuse .range s

def setOutputMode (f : List Byte) (s : State) : Answer :=
  sized 4 f s <| withUnit (u8 f 0) s fun i =>
    match OutputMode.ofCode (u8 f 1) with
    | some mode =>
      let manual := u16 f 2
      if manual ≤ 6000 then
        let o := s.output i
        done (b8 i ++ b8 mode.code ++ b16 manual ++ b16 o.dutyInForce ++ b8 o.basis.code)
          (s.setOutput i { o with mode := mode, manual := manual })
      else refuse .range s
    | none => refuse .range s

def readOutput (f : List Byte) (s : State) : Answer :=
  sized 1 f s <| withUnit (u8 f 0) s fun i =>
    let o := s.output i
    done (outputField i o ++ known (if o.basis = .margin then o.w else none) ++ flag (o.activeAt s.counter)
        ++ [s.alertSet] ++ flag s.alert) s

/-! ## Wet inputs and ALERT (R138, R139, R150) -/

/-- The wet-input block before its pin level, and after it (R188). -/
def wetHead (r : WetInput) : List Byte :=
  zoneOrNone r.zone ++ b8 r.wetLevel.toNat ++ b8 r.qualify ++ b8 r.selection.code ++ b8 r.state.code

def wetTail (r : WetInput) : List Byte := b24 r.capture ++ deadlineField r.deadline

def setWetInput (f : List Byte) (s : State) : Answer :=
  sized 5 f s <| withUnit (u8 f 0) s fun i =>
    match zoneOrNoneOf (u8 f 1), levelOf (u8 f 2), Selection.ofCode (u8 f 4) with
    | some zone, some level, some selection =>
      if u8 f 3 ≤ 50 then
        let old := s.wetInput i
        let new := old.configure s.counter zone level (u8 f 3) selection
        done (b8 i ++ wetHead new ++ wetTail new) ((s.setWetInput i new).recomputeFlags (old.affected new))
      else refuse .range s
    | _, _, _ => refuse .range s

/-- The set of zones whose wet flag is set. -/
def State.wetZones (s : State) : BitVec 24 :=
  allZones.foldl (fun b z => if (s.zone z).wet then b ||| BitVec.twoPow 24 z else b) 0

def readWetInputs (f : List Byte) (s : State) : Answer :=
  sized 0 f s <|
    done (s.wetInputs.toList.flatMap (fun r => wetHead r ++ b8 r.pin.toNat ++ wetTail r) ++ b24 s.wetZones) s

/-- An alert set naming CLEAR, DORMANT or a value outside the six states has bit 0, 2, 6 or 7 set (R150, R187). -/
def alertSetInRange (b : Byte) : Bool := b &&& 0b11000101#8 == 0

def setAlert (f : List Byte) (s : State) : Answer :=
  sized 1 f s <|
    let set := f.getD 0 0
    if alertSetInRange set then
      let next := State.refreshAlert { s with alertSet := set }
      done ([set] ++ flag next.alert) next
    else refuse .range s

/-! ## Notices (R182, R183) -/

/-- The notice read in its form READ or PEEK (R182). -/
def noticeRead (f : List Byte) (s : State) : Answer :=
  sized 1 f s <|
    match u8 f 0 with
    | 0 => done (b8 0 ++ s.noticePending.field) s
    | 1 => done (b8 1 ++ s.noticePending.field) { s with noticeArmed := s.noticePending }
    | _ => refuse .range s

def acknowledgeNotices (f : List Byte) (s : State) : Answer :=
  sized 0 f s <|
    let next : State :=
      { s with noticePending := s.noticePending.without s.noticeArmed, noticeArmed := NoticeSets.none }
    done next.noticePending.field next

/-! ## Restarts (R171 to R174) -/

/-- Step 1 of RESTART EVALUATION: verdict queue, notice sets, sticky flags and deferred marks emptied (R172). -/
def State.forgetReports (s : State) : State :=
  { s with
    verdicts := [], noticePending := NoticeSets.none, noticeArmed := NoticeSets.none, sticky := 0, deferred := 0 }

/-- Step 2: every runtime part is reset (R45). -/
def State.freshProbes (s : State) : State := s.setProbes (s.probes.map fun e => e.load.fresh s.counter)

/-- Step 3 for one zone: an enabled zone is made BLIND and evaluated; a DORMANT one is left as it stands (R172). -/
def State.restartZone (s : State) (z : Fin 24) : State :=
  if (s.zone z).enabled then s.applyDecision z ((s.zone z).restart s.counter (s.surfaceMin z)) else s

/-- Step 4 for one output: an enabled output takes a period boundary (R149, R172). -/
def State.restartOutput (s : State) (i : Fin 4) : State := if (s.output i).enabled then s.periodBoundary i s.counter else s

/-- RESTART EVALUATION, steps 1 to 4 (R172). -/
def State.restartEvaluation (s : State) : State :=
  allUnits.foldl State.restartOutput (allZones.foldl State.restartZone s.forgetReports.freshProbes).refreshAlert

/-- RESTART FULL, steps 1 to 5 (R174, R20, R163). -/
def State.restartFull (s : State) : State :=
  { s with
    fieldAsm :=
      match s.fieldAsm with
      | .receiving _ => .hunt
      | .hold _ => .idle
      | a => a
    fieldRx := if s.fieldAsm.holding then s.fieldRx.acknowledge else s.fieldRx
    intake := [], fieldOut := [], forward := [], verdicts := [], verdictRun := 0
    noticePending := NoticeSets.none, noticeArmed := NoticeSets.none, probes := []
    curve := Curve.builtIn, staging := .empty, arith := Arithmetic.powerOn, sticky := 0, deferred := 0
    zones := Vector.replicate 24 Zone.powerOn
    wetInputs := s.wetInputs.map fun r => WetInput.powerOn r.pin s.counter
    outputs := Vector.replicate 4 (Output.powerOn s.counter), alertSet := alertSetPowerOn, alert := false }

def restart (f : List Byte) (s : State) : Answer :=
  sized 1 f s <|
    match u8 f 0 with
    | 1 => done (b8 1 ++ b24 s.counter) s.restartEvaluation
    | 2 => done (b8 2 ++ b24 s.counter) s.restartFull
    | _ => refuse .range s

/-! ## Judging a COMMAND (R167) -/

/-- The answer to a command code; a code that names no command is refused UNKNOWN whatever the length (R167, R188). -/
def commandAnswer (code : Nat) (f : List Byte) (s : State) : Answer :=
  match code with
  | 1 => readTime f s
  | 2 => restart f s
  | 3 => loadProbe f s
  | 4 => dropProbe f s
  | 5 => readProbe f s
  | 6 => listProbes f s
  | 7 => setZone f s
  | 8 => stageThresholds f s
  | 9 => enableZone f s
  | 10 => disableZone f s
  | 11 => readZone f s
  | 12 => readWindow f s
  | 13 => clearWindow f s
  | 14 => curveBegin f s
  | 15 => curvePoints f s
  | 16 => curveCommit f s
  | 17 => restoreCurve f s
  | 18 => readCurve f s
  | 19 => setArithmetic f s
  | 20 => readArithmetic f s
  | 21 => clearSticky f s
  | 22 => setOutput f s
  | 23 => setOutputMode f s
  | 24 => readOutput f s
  | 25 => setWetInput f s
  | 26 => readWetInputs f s
  | 27 => setAlert f s
  | 28 => noticeRead f s
  | 29 => acknowledgeNotices f s
  | _ => refuse .unknown s

/-- The RESPONSE of an answer goes into the response slot as the command's last step (R165, R166). -/
def State.place (own : Byte) (code : Byte) (a : Answer) : State :=
  { a.state with response := some (mkFrame kindResponse own (code :: BitVec.ofNat 8 a.result.code :: a.data)) }

/-- A COMMAND is judged, carried out and answered in one event; an empty payload is refused LENGTH with code 0
(R165, R167). -/
def State.runCommand (s : State) (payload : List Byte) : State :=
  match payload with
  | [] => State.place s.ownAddress 0 (refuse .length s)
  | code :: f => State.place s.ownAddress code (commandAnswer code.toNat f s)

end Sys2Proof.Machine
end

