-- ==== Sys2Proof/Machine/Uplink.lean ====
section
/-! DEFINITION. The uplink arbiter, the start of a transmission, the field transmitter's queue, and the dispatch and holds of
station frames (spec/09, R16). -/

namespace Sys2Proof.Machine

open Sys2Proof

/-! ## Station frames (R153, R154) -/

/-- A COMMAND to the own address (R153). -/
def State.isOwnCommand (s : State) (f : Frame) : Bool := frameAddress f == s.ownAddress && frameKind f == kindCommand

/-- The assembler returns to IDLE and the final symbol is acknowledged. -/
def State.stationDone (s : State) : State := { s with stationAsm := .idle, stationRx := s.stationRx.acknowledge }

/-- A held COMMAND is executed in the event that empties the response slot (R154). -/
def State.releaseCommand (s : State) : State :=
  match s.stationAsm with
  | .hold r => if s.isOwnCommand r.bytes then s.stationDone.runCommand (framePayload r.bytes) else s
  | _ => s

/-- A held frame for the field is placed in the event that frees a place of the field-out queue (R154). -/
def State.releaseFieldFrame (s : State) : State :=
  match s.stationAsm with
  | .hold r =>
    if frameAddress r.bytes ≠ s.ownAddress ∧ s.fieldOut.length < Config.fieldOutRoom then
      { s.stationDone with fieldOut := s.fieldOut ++ [r.bytes] }
    else s
  | _ => s

/-- In IDLE with frames waiting, the field transmitter takes the head and begins to send it (R16). -/
def State.pumpField (s : State) : State :=
  if s.fieldTx.isIdle then
    match s.fieldOut with
    | [] => s
    | f :: rest => State.releaseFieldFrame { s with fieldOut := rest, fieldTx := s.fieldTx.start f }
  else s

/-- The dispatch of a good station frame (R153). -/
def State.dispatch (s : State) (r : FrameRecord) : State :=
  if frameAddress r.bytes = s.ownAddress then
    if frameKind r.bytes = kindCommand then
      if s.response = none then s.stationDone.runCommand (framePayload r.bytes)
      else { s with stationAsm := .hold r }
    else s.stationDone.postLine .stationStray
  else if s.fieldOut.length < Config.fieldOutRoom then
    State.pumpField { s.stationDone with fieldOut := s.fieldOut ++ [r.bytes] }
  else { s with stationAsm := .hold r }

/-! ## The arbiter and the start of a transmission (R158, R159) -/

/-- The VERDICT frame of an entry (R159, R186). -/
def verdictFrame (own : Byte) (v : Verdict) : Frame :=
  mkFrame kindVerdict own
    (b8 v.zone ++ b8 v.fromState.code ++ b8 v.toState.code ++ b8 v.cause.code
      ++ known v.readings.m ++ known v.readings.d ++ known v.readings.s ++ b24 v.stamp)

/-- The chosen frame is marked with the attention state as it stands and begins to leave (R159). -/
def State.startStation (s : State) (f : Frame) : State :=
  { s with stationTx := s.stationTx.start (markFrame s.noticePending f) }

/-- The head forwarded frame goes, and the verdict run becomes 0 (R158, case 3). -/
def State.sendForwarded (s : State) : State :=
  match s.forward with
  | [] => s
  | f :: rest => State.startStation { s with forward := rest, verdictRun := 0 } f

/-- The arbiter's choice with the transmitter IDLE: the response, then a verdict unless four have passed a waiting forwarded
frame, then the head forwarded frame (R158). The start of a response lets a held COMMAND be executed (R154). -/
def State.choose (s : State) : State :=
  match s.response with
  | some f => (State.startStation { s with response := none, verdictRun := 0 } f).releaseCommand
  | none =>
    match s.verdicts with
    | [] => s.sendForwarded
    | v :: rest =>
      if s.verdictRun < Config.verdictRun ∨ s.forward = [] then
        State.startStation { s with verdicts := rest, verdictRun := min Config.verdictRun (s.verdictRun + 1) }
          (verdictFrame s.ownAddress v)
      else s.sendForwarded

/-- The arbiter chooses only while the station transmitter is IDLE (R158). -/
def State.arbitrate (s : State) : State := if s.stationTx.isIdle then s.choose else s

end Sys2Proof.Machine
end

