-- ==== Sys2Proof/Machine/Settle.lean ====
section
/-! DEFINITION. The expiry events as whole events, the expiries that R26 makes next, and how an event meets the part: held in
reset it is not taken (R177), and otherwise the expiries due at once come first (R26, notes/assumptions/4.md). -/

namespace Sys2Proof.Machine

open Sys2Proof

/-! ## Which deadlines may expire -/

def State.silenceDeadline (s : State) (a : Byte) : Deadline := (s.findProbe a).bind ProbeEntry.silence

def State.slotDeadline (s : State) (z : Fin 24) (k : Fin 8) : Deadline := ((s.zone z).slot k).expiry

def State.persistenceDeadline (s : State) (z : Fin 24) : Deadline := (s.zone z).persistence.map Persistence.arming

/-! ## Expiries as whole events, each with the arbiter's choice that falls in it (R158) -/

/-- SILENCE_EXPIRY at an address (R41). -/
def State.takeSilence (a : Byte) (s : State) : State :=
  match s.findProbe a with
  | none => s
  | some e => (s.silenceExpiry e).arbitrate

/-- SLOT_EXPIRY of a zone's slot (R83). -/
def State.takeSlot (z : Fin 24) (k : Fin 8) (s : State) : State := (s.slotExpiry z k).arbitrate

/-- TREND_EXPIRY of a zone (R102). -/
def State.takeTrend (z : Fin 24) (s : State) : State :=
  match (s.zone z).trendDeadline with
  | none => s
  | some a => (s.trendExpiry z a).arbitrate

/-- PERSISTENCE_EXPIRY of a zone (R122). -/
def State.takePersistence (z : Fin 24) (s : State) : State := (s.persistenceExpiry z).arbitrate

/-- BLIND_EXPIRY of a zone (R123). -/
def State.takeBlind (z : Fin 24) (s : State) : State := (s.blindExpiry z).arbitrate

/-- QUALIFICATION_EXPIRY of a wet input (R136). -/
def State.takeQualification (i : Fin 4) (s : State) : State := (s.qualificationExpiry i).arbitrate

/-- PERIOD_BOUNDARY of an output, the next deadline one period on from this one (R142, R28). -/
def State.takeBoundary (i : Fin 4) (s : State) : State :=
  match (s.output i).boundary with
  | none => s
  | some a => s.periodBoundary i a.time

/-! ## Expiries due at once (R26) -/

/-- No deadline stands that R26 found reached when it was set. -/
def State.settled (s : State) : Bool :=
  s.wetInputs.toList.all (fun r => !deadlineDue r.deadline)
    && s.probes.all (fun e => !deadlineDue e.silence)
    && s.zones.toList.all (fun z =>
        z.slots.toList.all (fun k => !deadlineDue k.expiry)
          && !deadlineDue (z.persistence.map Persistence.arming) && !deadlineDue z.blind)

/-- Takes an event when its deadline is due at once. -/
def State.takeIfDue (s : State) (due : State → Bool) (take : State → State) : State := if due s then take s else s

/-- Takes the expiries of one zone that are due at once: its slots, all of them before any other event of the zone (R82, R86),
and then persistence or the blind grace, which the evaluations may themselves have made due (R114, R116, R120). -/
def State.takeDueZone (s : State) (z : Fin 24) : State :=
  let aired := allSlots.foldl
    (fun t k => t.takeIfDue (fun u => deadlineDue (u.slotDeadline z k)) (State.takeSlot z k)) s
  (aired.takeIfDue (fun u => deadlineDue (u.persistenceDeadline z)) (State.takePersistence z)).takeIfDue
    (fun u => deadlineDue (u.zone z).blind) (State.takeBlind z)

/-- Takes the expiries of every zone that are due at once. -/
def State.takeDueZones (s : State) : State := allZones.foldl State.takeDueZone s

/-- Takes every expiry due at once. An expiry of a zone comes before any qualification or silence that could evaluate the zone,
so that no other event reaches the zone's record in between, whichever block owns it (R26). -/
def State.takeDue (s : State) : State :=
  let qualified := allUnits.foldl
    (fun t i =>
      t.takeIfDue (fun u => deadlineDue (u.wetInput i).deadline) fun u => (State.takeQualification i u).takeDueZones)
    s.takeDueZones
  (qualified.probes.map fun e => e.load.address).foldl
    (fun t a => t.takeIfDue (fun u => deadlineDue (u.silenceDeadline a)) fun u => (State.takeSilence a u).takeDueZones)
    qualified

/-- The part once the expiries due at once have been taken. -/
def State.settle (s : State) : State := if s.settled then s else s.takeDue

/-! ## The end of a count (R27) -/

/-- No armed deadline stands that the counter has reached, and no duty that is over. -/
def State.nothingReached (s : State) : Bool :=
  let ahead (d : Deadline) := !deadlineExpired d s.counter
  s.wetInputs.toList.all (fun r => ahead r.deadline)
    && s.probes.all (fun e => ahead e.silence)
    && s.zones.toList.all (fun z =>
        z.slots.toList.all (fun k => ahead k.expiry)
          && ahead z.trendDeadline && ahead (z.persistence.map Persistence.arming) && ahead z.blind)
    && s.outputs.toList.all (fun o => ahead o.boundary && o.endDuty s.counter == o)

/-- Takes an event when the counter has reached its deadline, and then what it made due at once. -/
def State.takeIfReached (s : State) (deadline : State → Deadline) (take : State → State) : State :=
  if deadlineExpired (deadline s) s.counter then (take s).settle else s

/-- Takes the expiries of one zone that the counter has reached. -/
def State.takeReachedZone (s : State) (z : Fin 24) : State :=
  let aired := allSlots.foldl (fun t k => t.takeIfReached (fun u => u.slotDeadline z k) (State.takeSlot z k)) s
  ((aired.takeIfReached (fun u => (u.zone z).trendDeadline) (State.takeTrend z)).takeIfReached
    (fun u => u.persistenceDeadline z) (State.takePersistence z)).takeIfReached
      (fun u => (u.zone z).blind) (State.takeBlind z)

/-- Takes every expiry that the counter has reached, and ends the duties that are over (R27, R144). -/
def State.takeReached (s : State) : State :=
  let qualified := allUnits.foldl
    (fun t i => t.takeIfReached (fun u => (u.wetInput i).deadline) (State.takeQualification i)) s
  let heard := (qualified.probes.map fun e => e.load.address).foldl
    (fun t a => t.takeIfReached (fun u => u.silenceDeadline a) (State.takeSilence a)) qualified
  allUnits.foldl
    (fun t i => (t.takeIfReached (fun u => (u.output i).boundary) (State.takeBoundary i)).dutyEnd i)
    (allZones.foldl State.takeReachedZone heard)

/-- The part once every expiry of this count has been taken: each is taken at the count that reaches it (R27). -/
def State.finishCount (s : State) : State := if s.nothingReached then s else s.takeReached

/-! ## How an event meets the part -/

/-- An event of a block: not taken while the part is held in reset (R177); otherwise taken once nothing is due at once. -/
def event (s : State) (take : State → State) : Host.Outcome State Fault Refusal :=
  .next (if s.resetLow then s else take s.settle)

/-- A change of an input line: while the part is held only the line's level changes. -/
def pinEvent (s : State) (held take : State → State) : Host.Outcome State Fault Refusal :=
  .next (if s.resetLow then held s else take s.settle)

/-- An expiry: taken when its deadline is reached, and without effect of its own when the deadline is disarmed, still ahead, or
taken already because it was due at once (R25 to R27, notes/assumptions/3.md). -/
def expiryEvent (s : State) (deadline : State → Deadline) (take : State → State) : Host.Outcome State Fault Refusal :=
  event s fun t => if deadlineExpired (deadline t) t.counter then take t else t

end Sys2Proof.Machine
end

