-- ==== Sys2Proof/Machine/CommandRows.lean ====
section
/-! DEFINITION. The meanings of the COMMAND rows: a COMMAND frame with the row's code and the given fields completes on the
station line (R153, R165). -/

namespace Sys2Proof.Machine

open Sys2Proof

/-- The frame of a COMMAND to the own address, as R154 would hold it. -/
def commandRecord (own : Byte) (payload : List Byte) : FrameRecord :=
  { bytes := mkFrame kindCommand own payload, len := some payload.length, damaged := false, addrParity := none
    stamp := none }

/-- The dispatch of a COMMAND as one event (R153, R165; notes/assumptions/2.md). With the response slot empty it is executed,
the assembler IDLE, and the arbiter then chooses (R166); with the slot full the assembler holds it (R154, R157); while the
assembler holds a frame none can arrive (R2). -/
def State.takeCommand (payload : List Byte) (run : State → State) (s : State) : State :=
  if s.stationAsm.holding then s
  else if s.response.isSome then
    { s with
      stationAsm := .hold (commandRecord s.ownAddress payload), stationRx := { s.stationRx with ack := false } }
  else (run { s with stationAsm := .idle }).arbitrate

/-- A COMMAND row: judged, carried out and answered in one event (R165). -/
def commandRow (code : Nat) (fields : List Byte) (answer : State → Answer) (s : State) :
    Host.Outcome State Fault Refusal :=
  event s (State.takeCommand (BitVec.ofNat 8 code :: fields)
    fun t => State.place t.ownAddress (BitVec.ofNat 8 code) (answer t))

/-- UNKNOWN_COMMAND (R167): LENGTH for an empty payload, UNKNOWN for a code that names no command. -/
def execUnknownCommand (payload : List Byte) (s : State) : Host.Outcome State Fault Refusal :=
  event s (State.takeCommand payload fun t => t.runCommand payload)

/-- READ_TIME (R29), command code 1. -/
def execReadTime (fields : List Byte) (s : State) : Host.Outcome State Fault Refusal :=
  commandRow 1 fields (readTime fields) s

/-- RESTART_EVALUATION (R172), command code 2. -/
def execRestartEvaluation (fields : List Byte) (s : State) : Host.Outcome State Fault Refusal :=
  commandRow 2 fields (restart fields) s

/-- RESTART_FULL (R174), command code 2. -/
def execRestartFull (fields : List Byte) (s : State) : Host.Outcome State Fault Refusal :=
  commandRow 2 fields (restart fields) s

/-- LOAD_PROBE (R35), command code 3. -/
def execLoadProbe (fields : List Byte) (s : State) : Host.Outcome State Fault Refusal :=
  commandRow 3 fields (loadProbe fields) s

/-- DROP_PROBE (R37), command code 4. -/
def execDropProbe (fields : List Byte) (s : State) : Host.Outcome State Fault Refusal :=
  commandRow 4 fields (dropProbe fields) s

/-- READ_PROBE (R38), command code 5. -/
def execReadProbe (fields : List Byte) (s : State) : Host.Outcome State Fault Refusal :=
  commandRow 5 fields (readProbe fields) s

/-- LIST_PROBES (R39), command code 6. -/
def execListProbes (fields : List Byte) (s : State) : Host.Outcome State Fault Refusal :=
  commandRow 6 fields (listProbes fields) s

/-- SET_ZONE (R97), command code 7. -/
def execSetZone (fields : List Byte) (s : State) : Host.Outcome State Fault Refusal :=
  commandRow 7 fields (setZone fields) s

/-- STAGE_THRESHOLDS (R113), command code 8. -/
def execStageThresholds (fields : List Byte) (s : State) : Host.Outcome State Fault Refusal :=
  commandRow 8 fields (stageThresholds fields) s

/-- ENABLE_ZONE (R124), command code 9. -/
def execEnableZone (fields : List Byte) (s : State) : Host.Outcome State Fault Refusal :=
  commandRow 9 fields (enableZone fields) s

/-- DISABLE_ZONE (R125), command code 10. -/
def execDisableZone (fields : List Byte) (s : State) : Host.Outcome State Fault Refusal :=
  commandRow 10 fields (disableZone fields) s

/-- READ_ZONE (R109), command code 11. -/
def execReadZone (fields : List Byte) (s : State) : Host.Outcome State Fault Refusal :=
  commandRow 11 fields (readZone fields) s

/-- READ_WINDOW (R89), command code 12. -/
def execReadWindow (fields : List Byte) (s : State) : Host.Outcome State Fault Refusal :=
  commandRow 12 fields (readWindow fields) s

/-- CLEAR_WINDOW (R88), command code 13. -/
def execClearWindow (fields : List Byte) (s : State) : Host.Outcome State Fault Refusal :=
  commandRow 13 fields (clearWindow fields) s

/-- CURVE_BEGIN (R56), command code 14. -/
def execCurveBegin (fields : List Byte) (s : State) : Host.Outcome State Fault Refusal :=
  commandRow 14 fields (curveBegin fields) s

/-- CURVE_POINTS (R57), command code 15. -/
def execCurvePoints (fields : List Byte) (s : State) : Host.Outcome State Fault Refusal :=
  commandRow 15 fields (curvePoints fields) s

/-- CURVE_COMMIT (R58), command code 16. -/
def execCurveCommit (fields : List Byte) (s : State) : Host.Outcome State Fault Refusal :=
  commandRow 16 fields (curveCommit fields) s

/-- RESTORE_CURVE (R59), command code 17. -/
def execRestoreCurve (fields : List Byte) (s : State) : Host.Outcome State Fault Refusal :=
  commandRow 17 fields (restoreCurve fields) s

/-- READ_CURVE (R61), command code 18. -/
def execReadCurve (fields : List Byte) (s : State) : Host.Outcome State Fault Refusal :=
  commandRow 18 fields (readCurve fields) s

/-- SET_ARITHMETIC (R64), command code 19. -/
def execSetArithmetic (fields : List Byte) (s : State) : Host.Outcome State Fault Refusal :=
  commandRow 19 fields (setArithmetic fields) s

/-- READ_ARITHMETIC (R65), command code 20. -/
def execReadArithmetic (fields : List Byte) (s : State) : Host.Outcome State Fault Refusal :=
  commandRow 20 fields (readArithmetic fields) s

/-- CLEAR_STICKY (R66), command code 21. -/
def execClearSticky (fields : List Byte) (s : State) : Host.Outcome State Fault Refusal :=
  commandRow 21 fields (clearSticky fields) s

/-- SET_OUTPUT (R145), command code 22. -/
def execSetOutput (fields : List Byte) (s : State) : Host.Outcome State Fault Refusal :=
  commandRow 22 fields (setOutput fields) s

/-- SET_OUTPUT_MODE (R146), command code 23. -/
def execSetOutputMode (fields : List Byte) (s : State) : Host.Outcome State Fault Refusal :=
  commandRow 23 fields (setOutputMode fields) s

/-- READ_OUTPUT (R147), command code 24. -/
def execReadOutput (fields : List Byte) (s : State) : Host.Outcome State Fault Refusal :=
  commandRow 24 fields (readOutput fields) s

/-- SET_WET_INPUT (R138), command code 25. -/
def execSetWetInput (fields : List Byte) (s : State) : Host.Outcome State Fault Refusal :=
  commandRow 25 fields (setWetInput fields) s

/-- READ_WET_INPUTS (R139), command code 26. -/
def execReadWetInputs (fields : List Byte) (s : State) : Host.Outcome State Fault Refusal :=
  commandRow 26 fields (readWetInputs fields) s

/-- SET_ALERT (R150), command code 27. -/
def execSetAlert (fields : List Byte) (s : State) : Host.Outcome State Fault Refusal :=
  commandRow 27 fields (setAlert fields) s

/-- READ_NOTICES (R182), command code 28. -/
def execReadNotices (fields : List Byte) (s : State) : Host.Outcome State Fault Refusal :=
  commandRow 28 fields (noticeRead fields) s

/-- PEEK_NOTICES (R182), command code 28. -/
def execPeekNotices (fields : List Byte) (s : State) : Host.Outcome State Fault Refusal :=
  commandRow 28 fields (noticeRead fields) s

/-- ACKNOWLEDGE_NOTICES (R183), command code 29. -/
def execAcknowledgeNotices (fields : List Byte) (s : State) : Host.Outcome State Fault Refusal :=
  commandRow 29 fields (acknowledgeNotices fields) s

end Sys2Proof.Machine
end

