-- ==== Sys2Proof/Machine/Events.lean ====
section
/-! DEFINITION. The meanings of the rows that are not commands of the station controller: ticks, line events, expiries, wet
pins and resets. -/

namespace Sys2Proof.Machine

open Sys2Proof

/-! ## Timebase -/

/-- The counter advances by one and wraps (R22). No expiry outlasts its count: those that this count reached and no row has
taken come first (R27; notes/assumptions/5.md). -/
def State.tick (s : State) : State :=
  let t := s.finishCount
  { t with counter := t.counter + 1 }

/-- TICK (R22). -/
def execTick (s : State) : Host.Outcome State Fault Refusal := event s State.tick

/-! ## Field receive pair (R2, R4 to R12) -/

/-- The assembler's next state with the symbol acknowledged. -/
def State.fieldTaken (s : State) (a : Assembler) : State :=
  { s with fieldAsm := a, fieldRx := s.fieldRx.acknowledge }

/-- A discarded frame: its fault is posted, and with good address parity the Probe Table gets a damaged-frame report
(R9, R10). -/
def State.fieldDiscard (s : State) (r : FrameRecord) (d : Defect) : State :=
  let posted := (s.fieldTaken .idle).postLine d.field
  if r.addrParity = some true then posted.damagedReport (frameAddress r.bytes) else posted

/-- A good frame is placed with its completion stamp, or held with FIELD_HELD posted (R11). -/
def State.fieldGood (s : State) (r : FrameRecord) : State :=
  if s.intake.length < Config.intakeRoom then
    { s.fieldTaken .idle with intake := s.intake ++ [{ bytes := r.bytes, stamp := s.counter }] }
  else State.postLine { s with fieldAsm := .hold { r with stamp := some s.counter } } .fieldHeld

/-- Completion of a field frame (R9). -/
def State.fieldComplete (s : State) (r : FrameRecord) : State :=
  match r.judge with
  | .damaged => s.fieldDiscard r .parity
  | .checkFailed => s.fieldDiscard r .check
  | .good => s.fieldGood r

/-- A rising FRSTB: an arrival when the pair is ready and no acknowledge is withheld, and not sampled otherwise (R2). -/
def State.fieldArrival (w : Symbol) (s : State) : State :=
  let risen : State := { s with fieldRx := s.fieldRx.rise }
  if s.fieldRx.ready && !s.fieldAsm.holding then
    match s.fieldAsm.arrive true w with
    | .quiet a => risen.fieldTaken a
    | .faulty d a => (risen.fieldTaken a).postLine d.field
    | .complete r => (risen.fieldComplete r).arbitrate
  else risen

/-- FIELD_SYMBOL_ARRIVAL (R4 to R11). -/
def execFieldSymbolArrival (w : Symbol) (s : State) : Host.Outcome State Fault Refusal :=
  pinEvent s (fun t => { t with fieldRx := t.fieldRx.rise }) (State.fieldArrival w)

/-- FRSTB falls (R2). -/
def State.fieldStrobeFall (s : State) : State := { s with fieldRx := s.fieldRx.fall }

/-- FIELD_RECEIVE_STROBE_FALL (R2). -/
def execFieldReceiveStrobeFall (s : State) : Host.Outcome State Fault Refusal :=
  pinEvent s State.fieldStrobeFall State.fieldStrobeFall

/-- The timeout runs in RECEIVING and nowhere else (R7). -/
def State.fieldTimeout (s : State) : State :=
  if s.fieldAsm.timerRunning then State.postLine { s with fieldAsm := .idle } .fieldTimeout else s

/-- FIELD_INTER_SYMBOL_TIMEOUT (R7). -/
def execFieldInterSymbolTimeout (s : State) : Host.Outcome State Fault Refusal := event s State.fieldTimeout

/-! ## Field transmit pair (R16 to R18) -/

/-- FTACK rises; a transmitter back in IDLE takes the next head (R16, R17). -/
def State.fieldAckRise (s : State) : State := State.pumpField { s with fieldTx := s.fieldTx.ackRise }

/-- FIELD_SYMBOL_ACKNOWLEDGED (R17). -/
def execFieldSymbolAcknowledged (s : State) : Host.Outcome State Fault Refusal :=
  pinEvent s (fun t => { t with fieldTx := { t.fieldTx with ack := true } }) State.fieldAckRise

/-- FTACK falls (R17, step 2). -/
def State.fieldAckFall (s : State) : State := { s with fieldTx := s.fieldTx.ackFall }

/-- FIELD_TRANSMIT_ACK_FALL (R17). -/
def execFieldTransmitAckFall (s : State) : Host.Outcome State Fault Refusal :=
  pinEvent s (fun t => { t with fieldTx := { t.fieldTx with ack := false } }) State.fieldAckFall

/-- The frame being sent is abandoned and FIELD_STALL posted; then the next head is taken (R18, R16). -/
def State.fieldAllowance (s : State) : State :=
  if s.fieldTx.allowanceRunning then
    (State.postLine { s with fieldTx := s.fieldTx.abandon } .fieldStall).pumpField
  else s

/-- FIELD_ALLOWANCE_EXPIRY (R18). -/
def execFieldAllowanceExpiry (s : State) : Host.Outcome State Fault Refusal := event s State.fieldAllowance

/-! ## Intake -/

/-- CLASSIFIER_TAKE_HEAD (R47 to R51). -/
def execClassifierTakeHead (s : State) : Host.Outcome State Fault Refusal := event s fun t => t.takeHead.arbitrate

/-! ## Expiries -/

/-- SILENCE_EXPIRY (R41). -/
def execSilenceExpiry (address : Byte) (s : State) : Host.Outcome State Fault Refusal :=
  expiryEvent s (fun t => t.silenceDeadline address) (State.takeSilence address)

/-- SLOT_EXPIRY (R83). Slots reached at once expire in either order (R86), so the row of one takes it before the others. -/
def execSlotExpiry (zone : Fin 24) (slot : Fin 8) (s : State) : Host.Outcome State Fault Refusal :=
  if !s.resetLow && deadlineDue (s.slotDeadline zone slot) then .next (State.takeSlot zone slot s)
  else expiryEvent s (fun t => t.slotDeadline zone slot) (State.takeSlot zone slot)

/-- TREND_EXPIRY (R102). -/
def execTrendExpiry (zone : Fin 24) (s : State) : Host.Outcome State Fault Refusal :=
  expiryEvent s (fun t => (t.zone zone).trendDeadline) (State.takeTrend zone)

/-- PERSISTENCE_EXPIRY (R122). -/
def execPersistenceExpiry (zone : Fin 24) (s : State) : Host.Outcome State Fault Refusal :=
  expiryEvent s (fun t => t.persistenceDeadline zone) (State.takePersistence zone)

/-- BLIND_EXPIRY (R123). -/
def execBlindExpiry (zone : Fin 24) (s : State) : Host.Outcome State Fault Refusal :=
  expiryEvent s (fun t => (t.zone zone).blind) (State.takeBlind zone)

/-- QUALIFICATION_EXPIRY (R136). -/
def execQualificationExpiry (input : Fin 4) (s : State) : Host.Outcome State Fault Refusal :=
  expiryEvent s (fun t => (t.wetInput input).deadline) (State.takeQualification input)

/-- PERIOD_BOUNDARY (R142). -/
def execPeriodBoundary (output : Fin 4) (s : State) : Host.Outcome State Fault Refusal :=
  expiryEvent s (fun t => (t.output output).boundary) (State.takeBoundary output)

/-- DUTY_END (R144). -/
def execDutyEnd (output : Fin 4) (s : State) : Host.Outcome State Fault Refusal := event s fun t => t.dutyEnd output

/-! ## Wet pins -/

/-- The pin's level is seen while no event is taken (R177). -/
def State.wetPin (i : Fin 4) (high : Bool) (s : State) : State := s.setWetInput i { s.wetInput i with pin := high }

/-- A pin that changes level (R135); the level it already has is no change. -/
def State.wetLevel (i : Fin 4) (high : Bool) (s : State) : State :=
  if (s.wetInput i).pin = high then s else s.setWetInput i ((s.wetInput i).levelChange s.counter high)

/-- WET_LEVEL_CHANGE (R135). -/
def execWetLevelChange (input : Fin 4) (high : Bool) (s : State) : Host.Outcome State Fault Refusal :=
  pinEvent s (State.wetPin input high) (State.wetLevel input high)

/-! ## Station receive pair (R151 to R154) -/

/-- The assembler's next state with the symbol acknowledged. -/
def State.stationTaken (s : State) (a : Assembler) : State :=
  { s with stationAsm := a, stationRx := s.stationRx.acknowledge }

/-- Completion of a station frame: discarded with its fault, or dispatched (R152, R153). -/
def State.stationComplete (s : State) (r : FrameRecord) : State :=
  match r.judge with
  | .damaged => (s.stationTaken .idle).postLine Defect.parity.station
  | .checkFailed => (s.stationTaken .idle).postLine Defect.check.station
  | .good => s.dispatch r

/-- A rising SRSTB (R2, R151). -/
def State.stationArrival (w : Symbol) (s : State) : State :=
  let risen : State := { s with stationRx := s.stationRx.rise }
  if s.stationRx.ready && !s.stationAsm.holding then
    match s.stationAsm.arrive false w with
    | .quiet a => risen.stationTaken a
    | .faulty d a => (risen.stationTaken a).postLine d.station
    | .complete r => (risen.stationComplete r).arbitrate
  else risen

/-- STATION_SYMBOL_ARRIVAL (R151 to R154). -/
def execStationSymbolArrival (w : Symbol) (s : State) : Host.Outcome State Fault Refusal :=
  pinEvent s (fun t => { t with stationRx := t.stationRx.rise }) (State.stationArrival w)

/-- SRSTB falls (R151). -/
def State.stationStrobeFall (s : State) : State := { s with stationRx := s.stationRx.fall }

/-- STATION_RECEIVE_STROBE_FALL (R151). -/
def execStationReceiveStrobeFall (s : State) : Host.Outcome State Fault Refusal :=
  pinEvent s State.stationStrobeFall State.stationStrobeFall

/-- The timeout runs in RECEIVING and nowhere else (R7, R151). -/
def State.stationTimeout (s : State) : State :=
  if s.stationAsm.timerRunning then State.postLine { s with stationAsm := .idle } .stationTimeout else s

/-- STATION_INTER_SYMBOL_TIMEOUT (R151). -/
def execStationInterSymbolTimeout (s : State) : Host.Outcome State Fault Refusal := event s State.stationTimeout

/-! ## Station transmit pair (R160) -/

/-- STACK rises; a transmitter back in IDLE lets the arbiter choose again (R160). -/
def State.stationAckRise (s : State) : State := State.arbitrate { s with stationTx := s.stationTx.ackRise }

/-- STATION_SYMBOL_ACKNOWLEDGED (R160). -/
def execStationSymbolAcknowledged (s : State) : Host.Outcome State Fault Refusal :=
  pinEvent s (fun t => { t with stationTx := { t.stationTx with ack := true } }) State.stationAckRise

/-- STACK falls (R160). -/
def State.stationAckFall (s : State) : State := { s with stationTx := s.stationTx.ackFall }

/-- STATION_TRANSMIT_ACK_FALL (R160). -/
def execStationTransmitAckFall (s : State) : Host.Outcome State Fault Refusal :=
  pinEvent s (fun t => { t with stationTx := { t.stationTx with ack := false } }) State.stationAckFall

/-- The frame being sent is abandoned and STATION_STALL posted; then the arbiter chooses again (R160). -/
def State.stationAllowance (s : State) : State :=
  if s.stationTx.allowanceRunning then
    (State.postLine { s with stationTx := s.stationTx.abandon } .stationStall).arbitrate
  else s

/-- STATION_ALLOWANCE_EXPIRY (R160). -/
def execStationAllowanceExpiry (s : State) : Host.Outcome State Fault Refusal := event s State.stationAllowance

/-! ## Power-on and pin reset (R176 to R178) -/

/-- The own address of a strap value (R178). -/
def ownAddressOf (straps : BitVec 4) : Byte := 240 + straps.zeroExtend 8

/-- The state the resets give, with the input lines as they stand, the queue of waiting commands kept, and RESETN's level
(R176, R177, R19, R162). -/
def State.coldStart (s : State) (own : Byte) (low : Bool) : State :=
  { State.reset with
    pending := s.pending, resetLow := low, ownAddress := own
    fieldRx := Receiver.powerOn s.fieldRx.strobe, fieldTx := Transmitter.powerOn s.fieldTx.ack
    stationRx := Receiver.powerOn s.stationRx.strobe, stationTx := Transmitter.powerOn s.stationTx.ack
    wetInputs := s.wetInputs.map fun r => WetInput.powerOn r.pin 0 }

/-- POWER_ON (R176): the part stays held while RESETN is low (R177). -/
def execPowerOn (straps : BitVec 4) (s : State) : Host.Outcome State Fault Refusal :=
  .next (s.coldStart (ownAddressOf straps) s.resetLow)

/-- PIN_RESET (R177): RESETN goes low. -/
def execPinReset (s : State) : Host.Outcome State Fault Refusal :=
  .next (if s.resetLow then s else s.coldStart s.ownAddress true)

/-- PIN_RESET_RELEASE (R177): RESETN rises, and the straps are read again (R178). -/
def execPinResetRelease (straps : BitVec 4) (s : State) : Host.Outcome State Fault Refusal :=
  .next (if s.resetLow then s.coldStart (ownAddressOf straps) false else s)

end Sys2Proof.Machine
end

