-- ==== Sys2Proof/Machine/Dispatch.lean ====
section
/-! DEFINITION. One arm per command, one direct call of its meaning. -/

namespace Sys2Proof.Machine

open Sys2Proof

def exec (i : Instr) (s : State) : Host.Outcome State Fault Refusal :=
  match i with
  | .tick => Sys2Proof.Machine.execTick s
  | .fieldSymbolArrival symbol => Sys2Proof.Machine.execFieldSymbolArrival symbol s
  | .fieldInterSymbolTimeout => Sys2Proof.Machine.execFieldInterSymbolTimeout s
  | .fieldSymbolAcknowledged => Sys2Proof.Machine.execFieldSymbolAcknowledged s
  | .fieldAllowanceExpiry => Sys2Proof.Machine.execFieldAllowanceExpiry s
  | .classifierTakeHead => Sys2Proof.Machine.execClassifierTakeHead s
  | .silenceExpiry address => Sys2Proof.Machine.execSilenceExpiry address s
  | .slotExpiry zone slot => Sys2Proof.Machine.execSlotExpiry zone slot s
  | .trendExpiry zone => Sys2Proof.Machine.execTrendExpiry zone s
  | .persistenceExpiry zone => Sys2Proof.Machine.execPersistenceExpiry zone s
  | .blindExpiry zone => Sys2Proof.Machine.execBlindExpiry zone s
  | .wetLevelChange input high => Sys2Proof.Machine.execWetLevelChange input high s
  | .qualificationExpiry input => Sys2Proof.Machine.execQualificationExpiry input s
  | .periodBoundary output => Sys2Proof.Machine.execPeriodBoundary output s
  | .dutyEnd output => Sys2Proof.Machine.execDutyEnd output s
  | .stationSymbolArrival symbol => Sys2Proof.Machine.execStationSymbolArrival symbol s
  | .stationInterSymbolTimeout => Sys2Proof.Machine.execStationInterSymbolTimeout s
  | .stationSymbolAcknowledged => Sys2Proof.Machine.execStationSymbolAcknowledged s
  | .stationAllowanceExpiry => Sys2Proof.Machine.execStationAllowanceExpiry s
  | .powerOn straps => Sys2Proof.Machine.execPowerOn straps s
  | .pinReset => Sys2Proof.Machine.execPinReset s
  | .pinResetRelease straps => Sys2Proof.Machine.execPinResetRelease straps s
  | .unknownCommand payload => Sys2Proof.Machine.execUnknownCommand payload s
  | .readTime fields => Sys2Proof.Machine.execReadTime fields s
  | .restartEvaluation fields => Sys2Proof.Machine.execRestartEvaluation fields s
  | .restartFull fields => Sys2Proof.Machine.execRestartFull fields s
  | .loadProbe fields => Sys2Proof.Machine.execLoadProbe fields s
  | .dropProbe fields => Sys2Proof.Machine.execDropProbe fields s
  | .readProbe fields => Sys2Proof.Machine.execReadProbe fields s
  | .listProbes fields => Sys2Proof.Machine.execListProbes fields s
  | .setZone fields => Sys2Proof.Machine.execSetZone fields s
  | .stageThresholds fields => Sys2Proof.Machine.execStageThresholds fields s
  | .enableZone fields => Sys2Proof.Machine.execEnableZone fields s
  | .disableZone fields => Sys2Proof.Machine.execDisableZone fields s
  | .readZone fields => Sys2Proof.Machine.execReadZone fields s
  | .readWindow fields => Sys2Proof.Machine.execReadWindow fields s
  | .clearWindow fields => Sys2Proof.Machine.execClearWindow fields s
  | .curveBegin fields => Sys2Proof.Machine.execCurveBegin fields s
  | .curvePoints fields => Sys2Proof.Machine.execCurvePoints fields s
  | .curveCommit fields => Sys2Proof.Machine.execCurveCommit fields s
  | .restoreCurve fields => Sys2Proof.Machine.execRestoreCurve fields s
  | .readCurve fields => Sys2Proof.Machine.execReadCurve fields s
  | .setArithmetic fields => Sys2Proof.Machine.execSetArithmetic fields s
  | .readArithmetic fields => Sys2Proof.Machine.execReadArithmetic fields s
  | .clearSticky fields => Sys2Proof.Machine.execClearSticky fields s
  | .setOutput fields => Sys2Proof.Machine.execSetOutput fields s
  | .setOutputMode fields => Sys2Proof.Machine.execSetOutputMode fields s
  | .readOutput fields => Sys2Proof.Machine.execReadOutput fields s
  | .setWetInput fields => Sys2Proof.Machine.execSetWetInput fields s
  | .readWetInputs fields => Sys2Proof.Machine.execReadWetInputs fields s
  | .setAlert fields => Sys2Proof.Machine.execSetAlert fields s
  | .readNotices fields => Sys2Proof.Machine.execReadNotices fields s
  | .peekNotices fields => Sys2Proof.Machine.execPeekNotices fields s
  | .acknowledgeNotices fields => Sys2Proof.Machine.execAcknowledgeNotices fields s
  | .fieldReceiveStrobeFall => Sys2Proof.Machine.execFieldReceiveStrobeFall s
  | .stationReceiveStrobeFall => Sys2Proof.Machine.execStationReceiveStrobeFall s
  | .fieldTransmitAckFall => Sys2Proof.Machine.execFieldTransmitAckFall s
  | .stationTransmitAckFall => Sys2Proof.Machine.execStationTransmitAckFall s

end Sys2Proof.Machine
end

