-- ==== Sys2Proof/WellFormed.lean ====
section
/-! DEFINITION. Which terms of `Instr` stand for a command the part can meet. -/

namespace Sys2Proof

/-- The fields of a COMMAND fit a frame with their code byte: at most 60 payload bytes (R5, R186). -/
def fieldsFit (fields : List Byte) : Bool := decide (fields.length + 1 ≤ Config.longestPayload)

/-- Codes 0 and 30 … 255 name no command (R188). -/
def unlistedCode (code : Byte) : Bool := code.toNat == 0 || decide (30 ≤ code.toNat)

/-- An UNKNOWN_COMMAND payload is empty or opens with an unlisted code (R167), and fits a frame. -/
def unknownPayload : List Byte → Bool
  | [] => true
  | code :: fields => unlistedCode code && fieldsFit fields

/-- Well-formedness. A RESTART payload with scope FULL is the row RESTART_FULL and every other one RESTART_EVALUATION; a notice
read with form READ is the row READ_NOTICES and every other one PEEK_NOTICES (notes/assumptions/14.md). Probe addresses are
1 … 126 (00_scope.md). The other operands are bounded by their types. -/
def WellFormed : Instr → Bool
  | .tick => true
  | .fieldSymbolArrival _ => true
  | .fieldInterSymbolTimeout => true
  | .fieldSymbolAcknowledged => true
  | .fieldAllowanceExpiry => true
  | .classifierTakeHead => true
  | .silenceExpiry a => decide (1 ≤ a.toNat ∧ a.toNat ≤ 126)
  | .slotExpiry _ _ => true
  | .trendExpiry _ => true
  | .persistenceExpiry _ => true
  | .blindExpiry _ => true
  | .wetLevelChange _ _ => true
  | .qualificationExpiry _ => true
  | .periodBoundary _ => true
  | .dutyEnd _ => true
  | .stationSymbolArrival _ => true
  | .stationInterSymbolTimeout => true
  | .stationSymbolAcknowledged => true
  | .stationAllowanceExpiry => true
  | .powerOn _ => true
  | .pinReset => true
  | .pinResetRelease _ => true
  | .unknownCommand p => unknownPayload p
  | .readTime f => fieldsFit f
  | .restartEvaluation f => fieldsFit f && f != [2#8]
  | .restartFull f => f == [2#8]
  | .loadProbe f => fieldsFit f
  | .dropProbe f => fieldsFit f
  | .readProbe f => fieldsFit f
  | .listProbes f => fieldsFit f
  | .setZone f => fieldsFit f
  | .stageThresholds f => fieldsFit f
  | .enableZone f => fieldsFit f
  | .disableZone f => fieldsFit f
  | .readZone f => fieldsFit f
  | .readWindow f => fieldsFit f
  | .clearWindow f => fieldsFit f
  | .curveBegin f => fieldsFit f
  | .curvePoints f => fieldsFit f
  | .curveCommit f => fieldsFit f
  | .restoreCurve f => fieldsFit f
  | .readCurve f => fieldsFit f
  | .setArithmetic f => fieldsFit f
  | .readArithmetic f => fieldsFit f
  | .clearSticky f => fieldsFit f
  | .setOutput f => fieldsFit f
  | .setOutputMode f => fieldsFit f
  | .readOutput f => fieldsFit f
  | .setWetInput f => fieldsFit f
  | .readWetInputs f => fieldsFit f
  | .setAlert f => fieldsFit f
  | .readNotices f => f == [1#8]
  | .peekNotices f => fieldsFit f && f != [1#8]
  | .acknowledgeNotices f => fieldsFit f
  | .fieldReceiveStrobeFall => true
  | .stationReceiveStrobeFall => true
  | .fieldTransmitAckFall => true
  | .stationTransmitAckFall => true

end Sys2Proof
end

