-- ==== Sys2Proof/Safety.lean ====
section
/-! DEFINITION. The terms claims are stated in: when the part meets an event, when it takes a command, what an answered command
leaves, and the laws the spec gives the state between events. -/

namespace Sys2Proof.Machine

open Sys2Proof

/-! ## Meeting an event -/

/-- The part runs (RESETN high), and `t` is the part once the expiries that R26 makes next have been taken: the state an event
other than those expiries acts on. -/
def State.meets (s t : State) : Prop := s.resetLow = false ∧ s.settle = t

/-- The part runs, and an expiry of the deadline `d` acts on `t`, the settled part, whose counter has reached it. -/
def State.expires (s t : State) (d : State → Deadline) : Prop :=
  s.meets t ∧ deadlineExpired (d t) t.counter = true

/-- The Command Processor can take a command, and acts on `u`: no frame is held, the response slot is empty, and the command's
own dispatch has left the station assembler IDLE (R153, R165). -/
def State.hears (s u : State) : Prop :=
  s.resetLow = false ∧ s.settle.stationAsm.holding = false ∧ s.settle.response = none ∧
    u = { s.settle with stationAsm := .idle }

/-- `u` with the RESPONSE of a command in the slot, and then the arbiter's choice (R166). -/
def answered (u : State) (code : Nat) (r : Result) (data : List Byte) : Host.Outcome State Fault Refusal :=
  .next
    (State.arbitrate
      { u with
        response :=
          some (mkFrame kindResponse u.ownAddress (BitVec.ofNat 8 code :: BitVec.ofNat 8 r.code :: data)) })

/-! ## Laws between events -/

/-- Every queue is within its places, a held field frame means a full intake queue, and its final symbol is unacknowledged
(R11, R13, R15, R155, R158). -/
def State.QueuesWithinPlaces (s : State) : Prop :=
  s.intake.length ≤ 6 ∧ s.fieldOut.length ≤ 4 ∧ s.forward.length ≤ 8 ∧ s.verdictRun ≤ 4 ∧
    (s.fieldAsm.holding = true → s.intake.length = 6 ∧ s.fieldRx.ack = false)

/-- Every armed subject is pending (R179). -/
def State.ArmedArePending (s : State) : Prop := s.noticeArmed.without s.noticePending = NoticeSets.none

/-- The verdict queue never holds two entries for the same zone (R156). -/
def State.OneVerdictPerZone (s : State) : Prop := (s.verdicts.map Verdict.zone).Nodup

/-- The laws of one zone record: DORMANT exactly while not enabled (R111); a DORMANT zone's window is empty with every deadline
disarmed (R87, R104, R125); the trend deadline is armed exactly while enabled with I > 0 (R101); armed persistence belongs to
WATCH (R120); an armed blind deadline belongs to a level (R116); an enabled zone whose wet flag is set is in CONDENSING with
its blind deadline disarmed (R115); K is below W in the active and in a staged set (R112). -/
def Zone.Lawful (z : Zone) : Prop :=
  (z.state = .dormant ↔ z.enabled = false) ∧
  (z.enabled = false → z.persistence = none ∧ z.blind = none ∧ ∀ k : Fin 8, z.slot k = .empty) ∧
  (z.trendDeadline.isSome = true ↔ z.enabled = true ∧ 0 < z.interval) ∧
  (z.persistence.isSome = true → z.state = .watch) ∧
  (z.blind.isSome = true → z.state.isLevel = true) ∧
  (z.enabled = true → z.wet = true → z.state = .condensing ∧ z.blind = none) ∧
  z.active.k < z.active.w ∧ (∀ t, z.staged = some t → t.k < t.w)

def State.ZonesLawful (s : State) : Prop := ∀ z, (s.zone z).Lawful

/-- Every zone's wet flag says whether an input mapped to it has the taken state WET, and a qualification deadline is armed
exactly in TO_WET and TO_DRY (R134, R137). -/
def State.WetFlagsTrue (s : State) : Prop :=
  (∀ z, (s.zone z).wet = s.wetFlag z) ∧
  ∀ i, (s.wetInput i).deadline.isSome = true ↔ (s.wetInput i).state = .toWet ∨ (s.wetInput i).state = .toDry

/-- The laws of one probe entry: its loaded part is one LOAD PROBE accepts (R34); the silence deadline is armed exactly in UNSEEN
and LIVE, and an AIR entry has no last value (R32); it is FAULTY exactly with damaged count 3 (R42). -/
def ProbeEntry.Lawful (e : ProbeEntry) : Prop :=
  e.load.inRange = true ∧
  (e.silence.isSome = true ↔ e.state = .unseen ∨ e.state = .live) ∧
  (e.load.kind = .air → e.lastValue = .absent) ∧
  e.damaged ≤ 3 ∧ (e.state = .faulty ↔ e.damaged = 3)

/-- The Probe Table: at most 96 lawful entries in strictly ascending address, and PROBE_LOST holds addresses of entries only
(R33, R179). -/
def State.ProbeTableLawful (s : State) : Prop :=
  s.probes.length ≤ 96 ∧
  (s.probes.map fun e => e.load.address.toNat).Pairwise (· < ·) ∧
  (∀ e ∈ s.probes, e.Lawful) ∧
  ∀ a : Byte, s.noticePending.probeLost.getLsbD a.toNat = true → (s.findProbe a).isSome = true

/-- The ranges of a curve's base, step and knot count, and of its top knot (R53, R56). -/
def spanLawful (base : Int) (step n : Nat) : Prop :=
  -4000 ≤ base ∧ 50 ≤ step ∧ step ≤ 1000 ∧ 2 ≤ n ∧ n ≤ 32 ∧ base + ((n - 1 : Nat) : Int) * step ≤ 8500

/-- 2 to 32 knots in the span, values 1 … 65535 strictly increasing (R53). -/
def Curve.Lawful (c : Curve) : Prop :=
  spanLawful c.base c.step c.n ∧ (∀ v ∈ c.values, 1 ≤ v ∧ v ≤ 65535) ∧ c.values.Pairwise (· < ·)

/-- FILLING holds fewer than n values, FULL all of them (R55). -/
def Staging.Lawful : Staging → Prop
  | .empty => True
  | .filling base step n vs => spanLawful base step n ∧ vs.length < n ∧ ∀ v ∈ vs, 1 ≤ v ∧ v ≤ 65535
  | .full base step n vs => spanLawful base step n ∧ vs.length = n ∧ ∀ v ∈ vs, 1 ≤ v ∧ v ≤ 65535

/-- The curve in force and the staging buffer are lawful, and a deferred mark belongs to an unmasked condition whose sticky flag
is set (R53, R55, R64). -/
def State.ArithmeticLawful (s : State) : Prop :=
  s.curve.Lawful ∧ s.staging.Lawful ∧ s.deferred &&& ~~~(s.sticky &&& ~~~s.arith.masked) = 0

/-- The laws of a demand-output record: the duty in force never exceeds the period in force; the boundary deadline is armed
exactly while enabled; a disabled output shows no period and is driven inactive; the fields are in their ranges (R141). -/
def Output.Lawful (o : Output) : Prop :=
  o.dutyInForce ≤ o.periodInForce ∧
  (o.boundary.isSome = true ↔ o.enabled = true) ∧
  (o.enabled = false → o.periodInForce = 0 ∧ o.basis = .none ∧ o.w = none ∧ o.driven = false) ∧
  (o.enabled = true → 10 ≤ o.periodInForce ∧ o.periodInForce ≤ 6000) ∧
  50 ≤ o.band ∧ o.band ≤ 3000 ∧ 10 ≤ o.period ∧ o.period ≤ 6000 ∧ o.fallback ≤ 6000 ∧ o.manual ≤ 6000

/-- The timing of an enabled output at a count: the running period is not over before its boundary, the boundary lies one period
after the period's start, and the active part of the period is not ended early (R142, R144). -/
def Output.OnTime (o : Output) (now : Stamp) : Prop :=
  o.enabled = true →
    elapsed now o.start ≤ o.periodInForce ∧
    o.boundary = some { time := o.start + BitVec.ofNat 24 o.periodInForce, due := false } ∧
    (o.inDuty now = true → o.driven = true)

def State.OutputsLawful (s : State) : Prop := ∀ i, (s.output i).Lawful ∧ (s.output i).OnTime s.counter

/-- A deadline is disarmed, due at once, or no more than 65,535 ticks ahead of the counter: none has been passed (R25, R27). -/
def onTime (now : Stamp) (d : Deadline) : Prop := ∀ a, d = some a → a.due = true ∨ (a.time - now).toNat ≤ 65535

/-- No armed deadline has been passed; a periodic one is never due at once (R25, R27, R28). -/
def State.DeadlinesOnTime (s : State) : Prop :=
  (∀ i, onTime s.counter (s.wetInput i).deadline) ∧
  (∀ e ∈ s.probes, onTime s.counter e.silence) ∧
  (∀ z,
    (∀ k, onTime s.counter (s.slotDeadline z k)) ∧ onTime s.counter (s.persistenceDeadline z) ∧
    onTime s.counter (s.zone z).blind ∧ onTime s.counter (s.zone z).trendDeadline ∧
    deadlineDue (s.zone z).trendDeadline = false) ∧
  ∀ i, onTime s.counter (s.output i).boundary

/-- The ALERT line is asserted exactly while some enabled zone is in a state of the alert set, which names none but BLIND, WATCH,
RISK and CONDENSING (R149, R150); a zone is DORMANT exactly while not enabled (R111). -/
def State.AlertTrue (s : State) : Prop :=
  s.alert = s.alertNow ∧ alertSetInRange s.alertSet = true ∧
    ∀ z, (s.zone z).state = .dormant ↔ (s.zone z).enabled = false

/-- An idle transmitter has nothing waiting; a held COMMAND waits for a full response slot and any other held frame for a full
field-out queue, its final symbol unacknowledged (R154, R158, R16). -/
def State.NothingWaitsIdle (s : State) : Prop :=
  (s.stationTx.sender = .idle → s.response = none ∧ s.verdicts = [] ∧ s.forward = []) ∧
  (s.fieldTx.sender = .idle → s.fieldOut = []) ∧
  ∀ r, s.stationAsm = .hold r →
    s.stationRx.ack = false ∧
    (frameAddress r.bytes = s.ownAddress → s.isOwnCommand r.bytes = true ∧ s.response.isSome = true) ∧
    (frameAddress r.bytes ≠ s.ownAddress → 4 ≤ s.fieldOut.length)

/-- A transmit pair's strobe is high only on the symbol of the frame in progress; a symbol waits to be presented only for the
acknowledge to be low; and an acknowledge is owed only while it is low (R17, R18, R1). -/
def Transmitter.Lawful (t : Transmitter) : Prop :=
  (t.strobe = true → ∃ f p, t.sender = .sending f p ∧ t.data = mkSymbol (f.getD (p - 1) 0) (p == 1)) ∧
  (t.sender ≠ .idle → t.strobe = false → t.ack = true) ∧
  (t.owed = true → t.ack = false)

/-- Both transmit pairs are lawful, and while the part is held in reset its transmitters are IDLE and every line and output is at
its reset level (R177). -/
def State.LinesLawful (s : State) : Prop :=
  s.fieldTx.Lawful ∧ s.stationTx.Lawful ∧
  (s.resetLow = true →
    s.counter = 0 ∧ s.fieldRx.ack = false ∧ s.stationRx.ack = false ∧
    (s.fieldTx.sender = .idle ∧ s.fieldTx.strobe = false ∧ s.fieldTx.owed = false) ∧
    (s.stationTx.sender = .idle ∧ s.stationTx.strobe = false ∧ s.stationTx.owed = false) ∧
    s.alert = false ∧ ∀ i, (s.output i).pinHigh s.counter = false)

end Sys2Proof.Machine
end

