-- ==== Sys2Proof/Certificates/Slice0/Obligations.lean ====
section
/-! DEFINITION. The statements for the provers: what the rules of spec/ say of each command and of the machine, as propositions
about the model. -/

/-! ## Words the statements share -/

namespace Sys2Proof.Slice0

open Sys2Proof Sys2Proof.Machine

/-- The frame record a marked symbol begins (R4). -/
def freshRecord (w : Symbol) : FrameRecord :=
  { bytes := [w.extractLsb' 0 8], len := none, damaged := !goodParity w, addrParity := none, stamp := none }

/-- A record with one more symbol (R5). -/
def extended (r : FrameRecord) (w : Symbol) : FrameRecord :=
  { r with bytes := r.bytes ++ [w.extractLsb' 0 8], damaged := r.damaged || !goodParity w }

/-- The field assembler in `a`, FRSTB high and the symbol acknowledged. -/
def fieldAfter (t : State) (a : Assembler) : State :=
  { t with fieldAsm := a, fieldRx := { strobe := true, ack := true } }

/-- The station assembler in `a`, SRSTB high and the symbol acknowledged. -/
def stationAfter (t : State) (a : Assembler) : State :=
  { t with stationAsm := a, stationRx := { strobe := true, ack := true } }

/-- A transmit pair that has just taken a frame: the first symbol is presented with the acknowledge low, and waits otherwise
(R17). -/
def taking (tx : Transmitter) (f : Frame) : Transmitter :=
  if tx.ack = true then { tx with sender := .sending f 1, strobe := false }
  else { tx with sender := .sending f 1, data := mkSymbol (f.getD 0 0) true, strobe := true }

/-- `u` once its IDLE field transmitter has taken the next queued frame, if one waits; a station frame held for the field then
fills the freed place, and any other held frame stays held (R16, R154). -/
def fieldNext (u : State) : State :=
  match u.fieldOut with
  | [] => u
  | g :: rest =>
    let v : State := { u with fieldOut := rest, fieldTx := taking u.fieldTx g }
    match u.stationAsm with
    | .hold r =>
      if r.bytes.getD 1 0 ≠ u.ownAddress ∧ rest.length < 4 then
        { v with
          fieldOut := rest ++ [r.bytes], stationAsm := .idle
          stationRx := { strobe := u.stationRx.strobe, ack := u.stationRx.strobe } }
      else v
    | _ => v

/-- The symbol of a transmit pair is acknowledged: the strobe is lowered, and the next symbol waits or the frame is sent (R17). -/
def acknowledged (tx : Transmitter) (next : Sender) : Transmitter :=
  { tx with sender := next, strobe := false, ack := true }

/-- The frame of a transmit pair is abandoned: a symbol on the line without an acknowledge owes its rise (R18, R160). -/
def abandoned (tx : Transmitter) : Transmitter :=
  { tx with sender := .idle, strobe := false, owed := tx.owed || (tx.strobe && !tx.ack) }

/-- `u` with a frame on its way up the station line, marked with `u`'s attention state (R159). -/
def leaving (u : State) (f : Frame) : State := { u with stationTx := taking u.stationTx (markFrame u.noticePending f) }

/-- The table with the entry of `e`'s address replaced by `e`. -/
def rewritten (table : List ProbeEntry) (e : ProbeEntry) : List ProbeEntry :=
  table.map fun x => if x.load.address = e.load.address then e else x

/-- The runtime part after a good SAMPLE (R40). -/
def heardEntry (e : ProbeEntry) (now stamp : Stamp) (value : LastValue) : ProbeEntry :=
  { load := e.load, state := .live, lastArrival := some stamp, lastValue := value, damaged := 0
    silence := some (setDeadline now stamp (e.load.interval * e.load.misses)) }

/-- The runtime part that LOAD PROBE and RESTART EVALUATION set (R35, R45). -/
def freshEntry (p : ProbeLoad) (now : Stamp) : ProbeEntry :=
  { load := p, state := .unseen, lastArrival := none, lastValue := .absent, damaged := 0
    silence := some (setDeadline now now (p.interval * p.misses)) }

/-- One damaged frame counted against the entry of an address, and the evaluation and notice that FAULTY brings (R42). -/
def damageCounted (u : State) (e : ProbeEntry) : State :=
  if e.state = .faulty then u
  else if e.damaged < 2 then { u with probes := rewritten u.probes { e with damaged := e.damaged + 1 } }
  else
    let lost : State :=
      { u with probes := rewritten u.probes { e with damaged := 3, state := .faulty, silence := none } }
    (if e.contribution = none then lost else lost.evaluate e.load.zone).post (.probeLost e.load.address)

/-- A push of a result into a zone's window with its evaluation, dropped in a DORMANT zone (R81). -/
def pushed (u : State) (z : Fin 24) (stamp : Stamp) (result : Option Int) : State :=
  if (u.zone z).enabled = true then
    let k : Fin 8 := (u.zone z).top + 7
    let expiry := setDeadline u.counter stamp (u.zone z).age
    let slot : Slot :=
      match result with
      | some d => .valid stamp d expiry
      | none => .void stamp expiry
    State.evaluate (u.setZone z { u.zone z with top := k, slots := (u.zone z).slots.set k slot }) z
  else u

/-- The frame goes to the forward queue's tail or is discarded, as the action says (R51). -/
def disposed (u : State) (f : Frame) (a : Action) : State :=
  if a = .forward then { u with forward := u.forward ++ [f] } else u

/-- A SAMPLE stands at the head of the intake queue, from the entry `e`, and can be finished (R47, R48). -/
def sampleReady (t : State) (f : IntakeFrame) (rest : List IntakeFrame) (e : ProbeEntry) : Prop :=
  t.intake = f :: rest ∧ (f.bytes.getD 0 0).toNat / 16 = 1 ∧
    t.findProbe (f.bytes.getD 1 0) = some e ∧ (e.load.action = .absorb ∨ t.forward.length < 8)

/-- `t` with the head gone from its intake queue; a held frame takes the freed place with its own stamp, its final symbol is
acknowledged and the assembler returns to IDLE (R12). -/
def headGone (t : State) (rest : List IntakeFrame) : State :=
  match t.fieldAsm with
  | .hold r =>
    { t with
      intake := rest ++ [{ bytes := r.bytes, stamp := r.stamp.getD t.counter }], fieldAsm := .idle
      fieldRx := { strobe := t.fieldRx.strobe, ack := t.fieldRx.strobe } }
  | _ => { t with intake := rest }

/-- The n-th byte of a frame's payload, counting from 0. -/
def payloadByte (f : Frame) (n : Nat) : Nat := (f.getD (3 + n) 0).toNat

/-- A new period of an output, begun in `u`, the next boundary one period on from `base` (R142, R28). -/
def begun (u : State) (base : Stamp) (o : Output) : Output :=
  { o with
    periodInForce := o.period, start := u.counter, dutyInForce := min (u.duty o).1 o.period
    basis := (u.duty o).2.1, w := (u.duty o).2.2
    boundary := some { time := base + BitVec.ofNat 24 (min o.period 65535), due := false }
    driven := decide (0 < min (u.duty o).1 o.period) }

/-- The active part of an output's period: the elapsed time is less than the duty, or the duty is the whole period (R144). -/
def withinDuty (o : Output) (now : Stamp) : Bool :=
  decide ((now - o.start).toNat < o.dutyInForce ∨ (0 < o.dutyInForce ∧ o.dutyInForce = o.periodInForce))

/-- A window with every slot EMPTY (R87). -/
def noSlots : Vector Slot 8 := Vector.replicate 8 .empty

/-- The trend deadline of a trend set afresh at `now` (R104). -/
def trendFrom (now : Stamp) (interval : Nat) : Deadline :=
  if 0 < interval then some (setDeadline now now interval) else none

/-- A zone made BLIND by ENABLE ZONE or RESTART EVALUATION and evaluated with its window empty: it takes up its staged set and
ends BLIND, or CONDENSING when its wet flag is set (R124, R130). -/
def reawakened (now : Stamp) (z : Zone) : Zone :=
  { z with
    enabled := true, slots := noSlots, trendStart := none, slope := none, trendDeadline := trendFrom now z.interval
    persistence := none, blind := none, active := z.staged.getD z.active, staged := none
    state := if z.wet = true then .condensing else .blind }

/-- A kind's pending set is non-empty, by the kind's code (R179). -/
def kindPending (n : NoticeSets) (code : Nat) : Bool :=
  match code with
  | 1 => n.wet != 0 | 2 => n.condensing != 0 | 3 => n.risk != 0 | 4 => n.blind != 0
  | 5 => n.probeLost != 0 | 6 => n.arith != 0 | 7 => n.line != 0 | _ => false

/-- The payload lengths a command code allows (R168, R188). -/
def lengthAllowed (code n : Nat) : Bool :=
  match code with
  | 1 | 16 | 17 | 20 | 21 | 26 | 29 => n == 1
  | 2 | 4 | 5 | 6 | 9 | 10 | 11 | 12 | 13 | 18 | 24 | 27 | 28 => n == 2
  | 23 => n == 5
  | 14 | 19 | 25 => n == 6
  | 7 => n == 9
  | 8 => n == 10
  | 22 => n == 13
  | 3 => n == 22
  | 15 => n % 2 == 0 && decide (4 ≤ n ∧ n ≤ 34)
  | _ => false

/-- The range checks of LOAD PROBE on its field bytes (R34). -/
def loadInRange (f : List Byte) : Prop :=
  (1 ≤ u8 f 0 ∧ u8 f 0 ≤ 126) ∧ u8 f 1 ≤ 2 ∧ u8 f 2 ≤ 23 ∧ u8 f 3 ≤ 1 ∧
  (-4000 ≤ s16 f 4 ∧ s16 f 4 < s16 f 6 ∧ s16 f 6 ≤ 8500) ∧ (-500 ≤ s16 f 8 ∧ s16 f 8 ≤ 500) ∧
  (10 ≤ u16 f 16 ∧ u16 f 16 ≤ 6000) ∧ (1 ≤ u8 f 18 ∧ u8 f 18 ≤ 15) ∧
  (u8 f 1 = 0 →
    (-1000 ≤ s16 f 10 ∧ s16 f 10 < s16 f 12 ∧ s16 f 12 ≤ 11000) ∧ (-500 ≤ s16 f 14 ∧ s16 f 14 ≤ 500)) ∧
  (u8 f 1 = 2 → u16 f 19 ≤ 1000)

/-- The loaded part those bytes spell: channel B is 0 unless AIR, the credit 0 unless WATER (R34). -/
def loadSpelled (f : List Byte) (p : ProbeLoad) : Prop :=
  p.address = f.getD 0 0 ∧ p.kind.code = u8 f 1 ∧ (p.zone : Nat) = u8 f 2 ∧ p.action.code = u8 f 3 ∧
  p.aLow = s16 f 4 ∧ p.aHigh = s16 f 6 ∧ p.aTrim = s16 f 8 ∧
  p.bLow = (if u8 f 1 = 0 then s16 f 10 else 0) ∧ p.bHigh = (if u8 f 1 = 0 then s16 f 12 else 0) ∧
  p.bTrim = (if u8 f 1 = 0 then s16 f 14 else 0) ∧
  p.interval = u16 f 16 ∧ p.misses = u8 f 18 ∧ p.credit = (if u8 f 1 = 2 then u16 f 19 else 0)

/-- The state a known margin leaves a zone in, from the level `f` and the candidate `c` (R119, R121). -/
def settledLevel (t : Thresholds) (f c : ZoneState) (m p : Int) : ZoneState :=
  let toClear := (t.w + t.h : Int) ≤ m ∧ (t.k + t.h : Int) ≤ p
  let toWatch := (t.k + t.h : Int) ≤ m
  match f, c with
  | .clear, .clear => .clear
  | .clear, _ => .watch
  | .watch, .clear => if toClear then .clear else .watch
  | .watch, _ => .watch
  | .risk, .condensing => .condensing
  | .risk, .risk => .risk
  | .risk, .watch => if toWatch then .watch else .risk
  | .risk, _ => if toWatch then (if toClear then .clear else .watch) else .risk
  | .condensing, .condensing => .condensing
  | .condensing, .risk => if (t.h : Int) ≤ m then .risk else .condensing
  | .condensing, .watch => if (t.h : Int) ≤ m then (if toWatch then .watch else .risk) else .condensing
  | .condensing, _ =>
    if (t.h : Int) ≤ m then (if toWatch then (if toClear then .clear else .watch) else .risk) else .condensing
  | f, _ => f

/-- The levels a zone passes on its way from the level `f` to the level `g`, one at a time, `g` the last of them (R119, R121). -/
def levelPath (f g : ZoneState) : List ZoneState :=
  match f, g with
  | .clear, .watch => [.watch]
  | .risk, .condensing => [.condensing]
  | .watch, .clear => [.clear]
  | .risk, .watch => [.watch]
  | .risk, .clear => [.watch, .clear]
  | .condensing, .risk => [.risk]
  | .condensing, .watch => [.risk, .watch]
  | .condensing, .clear => [.risk, .watch, .clear]
  | _, _ => []

/-- What a known margin leaves of persistence, from the level `f`, the candidate `c` and the persistence the take-up left
(R119 to R121). -/
def settledPersistence (now : Stamp) (t : Thresholds) (f c : ZoneState) (p : Option Persistence) : Option Persistence :=
  let handed (r : Raised) : Option Persistence :=
    match p with
    | none => some { arming := setDeadline now now t.p, stamp := now, candidate := r }
    | some q => some { q with candidate := r }
  match c, f with
  | .risk, .clear => handed .risk
  | .risk, .watch => handed .risk
  | .condensing, .clear => handed .condensing
  | .condensing, .watch => handed .condensing
  | .watch, _ => none
  | .clear, _ => none
  | .risk, .condensing => none
  | _, _ => p

/-- A silence expiry of the entry `e`, whole: STALE, disarmed, its zone evaluated if it contributed, PROBE_LOST posted, and the
arbiter's choice (R41, R44). -/
def silenceTaken (t : State) (e : ProbeEntry) : State :=
  let written : State := { t with probes := rewritten t.probes { e with state := .stale, silence := none } }
  State.arbitrate
    ((if e.contribution = none then written else written.evaluate e.load.zone).post (.probeLost e.load.address))

/-- A slot expiry, whole: the slot is EMPTY, TOP kept, the zone evaluated, and the arbiter's choice (R83). -/
def slotTaken (t : State) (z : Fin 24) (k : Fin 8) : State :=
  State.arbitrate (State.evaluate (t.setZone z { t.zone z with slots := (t.zone z).slots.set k .empty }) z)

/-- A zone enters a state by an expiry that is no evaluation: the record, the verdict entry and the ALERT line (R126, R128). -/
def entered (t : State) (z : Fin 24) (next : ZoneState) (cause : Cause) (zone : Zone) : State :=
  let moved := t.setZone z zone
  let change : Change :=
    { fromState := (t.zone z).state, toState := next, cause := cause, readings := (t.zone z).readings (t.surfaceMin z) }
  { moved with verdicts := queueVerdict z t.counter t.verdicts change, alert := moved.alertNow }

/-- A persistence expiry of a zone in WATCH, whole: the stored candidate is entered and its notice posted, and the arbiter chooses
(R122, R126). -/
def persistenceTaken (t : State) (z : Fin 24) (p : Persistence) : State :=
  let u := entered t z p.candidate.state .persistence { t.zone z with state := p.candidate.state, persistence := none }
  State.arbitrate
    (u.post
      (match p.candidate with
        | .risk => .risk z
        | .condensing => .condensing z))

/-- A blind expiry of a level, whole: BLIND is entered and posted with both deadlines disarmed, and the arbiter chooses (R123,
R126). -/
def blindTaken (t : State) (z : Fin 24) : State :=
  State.arbitrate
    ((entered t z .blind .blind { t.zone z with state := .blind, blind := none, persistence := none }).post (.blind z))

/-- A qualification expiry in TO_WET or TO_DRY, whole: the change is taken and stamped, the mapped zone's wet flag rewritten with
an evaluation if that changed it, WET posted when the selection matches, and the arbiter chooses (R136, R137). -/
def qualificationTaken (t : State) (i : Fin 4) : State :=
  let r := t.wetInput i
  let wet := r.state = .toWet
  let taken := t.setWetInput i { r with state := if wet then .wet else .dry, deadline := none, capture := t.counter }
  let flag (z : Fin 24) : Bool :=
    taken.wetInputs.toList.any fun x => x.zone == some z && (x.state == .wet || x.state == .toDry)
  let flagged : State :=
    match r.zone with
    | none => taken
    | some z =>
      if flag z = (t.zone z).wet then taken
      else State.evaluate (taken.setZone z { t.zone z with wet := flag z }) z
  State.arbitrate
    (if r.selection = .both ∨ (r.selection = .onWet ∧ wet) ∨ (r.selection = .onDry ∧ ¬ wet) then flagged.post (.wet i)
      else flagged)

/-- No slot of the zone is due at once (R26). -/
abbrev slotsCalm (s : State) (z : Fin 24) : Prop := ∀ k, deadlineDue (s.slotDeadline z k) = false

/-- Nothing of the zone is due at once (R26). -/
abbrev zoneCalm (s : State) (z : Fin 24) : Prop :=
  slotsCalm s z ∧ deadlineDue (s.persistenceDeadline z) = false ∧ deadlineDue (s.zone z).blind = false

/-- No deadline of the part is due at once (R26). -/
abbrev nothingDue (s : State) : Prop :=
  (∀ z, zoneCalm s z) ∧ (∀ i, deadlineDue (s.wetInput i).deadline = false) ∧ ∀ e ∈ s.probes, deadlineDue e.silence = false

/-- A deadline that is disarmed, or that the counter of `t` has not reached. -/
abbrev ahead (t : State) (d : Deadline) : Prop := deadlineExpired d t.counter = false

/-- A deadline that is disarmed or still ahead once the expiries due at once have been taken, its own among them. -/
def awaits (s : State) (d : State → Deadline) : Prop :=
  s.resetLow = false ∧ ahead s.settle (d s.settle)

/-- The counter of `t` has reached no deadline, and no duty is over. -/
def reachesNothing (t : State) : Prop :=
  (∀ i, ahead t (t.wetInput i).deadline) ∧ (∀ e ∈ t.probes, ahead t e.silence) ∧
  (∀ z,
    (∀ k, ahead t (t.slotDeadline z k)) ∧ ahead t (t.zone z).trendDeadline ∧ ahead t (t.persistenceDeadline z) ∧
    ahead t (t.zone z).blind) ∧
  ∀ i, ahead t (t.output i).boundary ∧
    ((t.output i).enabled = true → (t.output i).driven = true → withinDuty (t.output i) t.counter = true)

/-- A TICK of `s` does what the row `c` does, takes what that made due at once, and counts. -/
def countsAfter (c : Instr) (s : State) : Prop :=
  ∃ v, exec c s = .next v ∧ exec .tick s = .next { v.settle with counter := v.settle.counter + 1 }

end Sys2Proof.Slice0

section Slice0Statements

open Sys2Proof Sys2Proof.Machine Sys2Proof.Slice0

/-! ## The machine as a whole -/

/-- A step takes the command at the front of the queue and is its meaning on the state with the queue's rest; with nothing
waiting the part idles (the queue is the model's, notes/assumptions/1.md). -/
def Obligations.StepRunsTheFrontCommand : Prop :=
  ∀ (c : Instr) (rest : List Instr) (s : State),
    step { s with pending := c :: rest } = exec c { s with pending := rest } ∧
    step { s with pending := [] } = .next { s with pending := [] }

/-- Every command answers a next state, from every state; it leaves the queue of waiting commands alone, and all but a tick and
the resets leave the counter, the own address and RESETN alone (R22, R178). The queue is the model's own field
(notes/assumptions/1.md). -/
def Obligations.EveryCommandAnswers : Prop :=
  ∀ (c : Instr) (s : State),
    ∃ t, exec c s = .next t ∧ t.pending = s.pending ∧
      (c ≠ .tick → c ≠ .pinReset → (∀ a, c ≠ .powerOn a) → (∀ a, c ≠ .pinResetRelease a) →
        t.counter = s.counter ∧ t.ownAddress = s.ownAddress ∧ t.resetLow = s.resetLow)

/-- While RESETN is low no event is taken: only the levels of the input lines move (R177). What a held part still records of its
input lines, and that PIN_RESET has no effect on it, is the model's reading (notes/assumptions/11.md). -/
def Obligations.HeldPartTakesNoEvent : Prop :=
  ∀ (c : Instr) (s : State),
    s.resetLow = true → s.fieldRx.ack = false → s.stationRx.ack = false →
    (∀ a, c ≠ .powerOn a) → (∀ a, c ≠ .pinResetRelease a) →
    ∃ t, exec c s = .next t ∧
      t =
        { s with
          fieldRx := { s.fieldRx with strobe := t.fieldRx.strobe }
          stationRx := { s.stationRx with strobe := t.stationRx.strobe }
          fieldTx := { s.fieldTx with ack := t.fieldTx.ack }
          stationTx := { s.stationTx with ack := t.stationTx.ack }
          wetInputs := t.wetInputs } ∧
      ∀ i, t.wetInput i = { s.wetInput i with pin := (t.wetInput i).pin }

/-- A tick adds one to the counter, modulo 16,777,216, and, where its count has left no expiry untaken, does nothing else (R22;
that it takes an expiry left untaken first is notes/assumptions/5.md); POWER_ON and PIN_RESET_RELEASE give the power-on state
with the own address 240 plus the straps, keeping the levels of the input lines (R176 to R178; notes/assumptions/9.md and 10.md
for the levels and the data lines); PIN_RESET holds the part with its lines at their reset levels (R177,
notes/assumptions/11.md). The fields of the model's own, the end of an output's active part and an owed acknowledge, are cleared
too (notes/assumptions/12.md and 16.md), and the waiting commands are kept (notes/assumptions/1.md). -/
def Obligations.TicksAndResets : Prop :=
  (∀ s t, s.meets t →
    (∃ v, exec .tick s = .next v ∧ v.counter.toNat = (t.counter.toNat + 1) % 16777216 ∧ v.ownAddress = t.ownAddress ∧
      v.resetLow = false) ∧
    (reachesNothing t → exec .tick s = .next { t with counter := t.counter + 1 })) ∧
  (State.reset.counter = 0 ∧ State.reset.ownAddress = 240 ∧ State.reset.curve = Curve.builtIn ∧
    State.reset.staging = .empty ∧ State.reset.arith = { mode := .nearest, masked := 0b1110#4 } ∧
    State.reset.sticky = 0 ∧ State.reset.deferred = 0 ∧ State.reset.probes = [] ∧
    (∀ z, State.reset.zone z =
      { enabled := false, age := 3000, interval := 600, lookahead := 0, grace := 1800
        active := { w := 300, k := 100, h := 50, p := 600 }, staged := none, top := 0, slots := noSlots
        trendStart := none, slope := none, trendDeadline := none, state := .dormant, persistence := none
        blind := none, wet := false }) ∧
    (∀ i, State.reset.output i =
      { enabled := false, zones := 0, band := 300, period := 600, fallback := 0, polarity := .activeHigh, mode := .auto
        manual := 0, periodInForce := 0, dutyInForce := 0, start := 0, boundary := none, basis := .none, w := none
        driven := false }) ∧
    State.reset.alertSet = 0b00110000#8 ∧ State.reset.alert = false ∧
    State.reset.noticePending = NoticeSets.none ∧ State.reset.noticeArmed = NoticeSets.none ∧
    State.reset.intake = [] ∧ State.reset.fieldOut = [] ∧ State.reset.forward = [] ∧ State.reset.verdicts = [] ∧
    State.reset.response = none ∧ State.reset.verdictRun = 0 ∧ State.reset.fieldAsm = .idle ∧
    State.reset.stationAsm = .idle) ∧
  ∀ (straps : BitVec 4) (s : State),
    let cold (own : Byte) (low : Bool) : State :=
      { State.reset with
        pending := s.pending, resetLow := low, ownAddress := own
        fieldRx := { strobe := s.fieldRx.strobe, ack := false }
        stationRx := { strobe := s.stationRx.strobe, ack := false }
        fieldTx := { sender := .idle, data := 0, strobe := false, ack := s.fieldTx.ack, owed := false }
        stationTx := { sender := .idle, data := 0, strobe := false, ack := s.stationTx.ack, owed := false }
        wetInputs := s.wetInputs.map fun r =>
          { pin := r.pin, zone := none, wetLevel := true, qualify := 10, selection := .both
            state := if r.pin = true then .wet else .dry, deadline := none, capture := 0 } }
    exec (.powerOn straps) s = .next (cold (BitVec.ofNat 8 (240 + straps.toNat)) s.resetLow) ∧
    (s.resetLow = true →
      exec (.pinResetRelease straps) s = .next (cold (BitVec.ofNat 8 (240 + straps.toNat)) false)) ∧
    (s.resetLow = false → exec .pinReset s = .next (cold s.ownAddress true))

/-! ## Deadlines -/

/-- A deadline's value is its base plus its duration, at most 65,535 ticks, modulo the turn; it is reached at once exactly when
the elapsed time is at least that; where the base is less than half a turn old the half-range test agrees; and one that is not
reached at once lies 1 to 65,535 ticks ahead (R24 to R26). -/
def Obligations.DeadlineTestsAgree : Prop :=
  ∀ (now base : Stamp) (d : Nat),
    let a := setDeadline now base d
    a.time.toNat = (base.toNat + min d 65535) % 16777216 ∧
    (a.due = true ↔ min d 65535 ≤ (now.toNat + 16777216 - base.toNat) % 16777216) ∧
    (∀ t : Stamp, reached now t = true ↔ (now.toNat + 16777216 - t.toNat) % 16777216 < 8388608) ∧
    ((now.toNat + 16777216 - base.toNat) % 16777216 < 8388608 → a.due = reached now a.time) ∧
    (a.due = false →
      1 ≤ (a.time.toNat + 16777216 - now.toNat) % 16777216 ∧
      (a.time.toNat + 16777216 - now.toNat) % 16777216 ≤ 65535)

/-- An expiry that R26 makes next is the whole expiry, taken before any other event, and after it come those that it has made due
itself: an expiry of a zone is taken while a qualification or a silence is due too, so that neither reaches the zone before it
(R26, R82, R86, R114, R116, R120, R122); in which order the zones, the inputs and the probes come among themselves is the model's
(notes/assumptions/4.md), as are a zone's slots by index, and each expiry ends with the arbiter's choice (notes/assumptions/7.md).
With nothing due the part stands as it is, and once the due expiries have been taken none is left. No step passes a deadline: each that is armed is due at once or stays at most 65,535 ticks ahead of
the counter, so an expiry is taken at the count that reaches it (R25, R27; by its row or by the TICK that ends the count,
notes/assumptions/5.md). -/
def Obligations.NothingStaysDue : Prop :=
  (∀ s : State, (s.settled = true ↔ nothingDue s) ∧ (nothingDue s → s.settle = s)) ∧
  (∀ s : State, s.NothingWaitsIdle → s.ProbeTableLawful →
    nothingDue s.settle ∧
    (∀ z k, deadlineDue (s.slotDeadline z k) = true → (∀ y < z, zoneCalm s y) →
      (∀ j < k, deadlineDue (s.slotDeadline z j) = false) → s.settle = (slotTaken s z k).settle) ∧
    (∀ z p, (s.zone z).persistence = some p → p.arming.due = true → (s.zone z).state = .watch →
      (∀ y < z, zoneCalm s y) → slotsCalm s z → s.settle = (persistenceTaken s z p).settle) ∧
    (∀ z, deadlineDue (s.zone z).blind = true → (s.zone z).state.isLevel = true → (∀ y < z, zoneCalm s y) →
      slotsCalm s z → deadlineDue (s.persistenceDeadline z) = false → s.settle = (blindTaken s z).settle) ∧
    (∀ i, deadlineDue (s.wetInput i).deadline = true → (s.wetInput i).state = .toWet ∨ (s.wetInput i).state = .toDry →
      (∀ z, zoneCalm s z) → (∀ j < i, deadlineDue (s.wetInput j).deadline = false) →
      s.settle = (qualificationTaken s i).settle) ∧
    ∀ a e, s.findProbe a = some e → deadlineDue e.silence = true → (∀ z, zoneCalm s z) →
      (∀ i, deadlineDue (s.wetInput i).deadline = false) →
      (∀ x ∈ s.probes, x.load.address.toNat < a.toNat → deadlineDue x.silence = false) →
      s.settle = (silenceTaken s e).settle) ∧
  ∀ s t : State, s.NothingWaitsIdle → s.ProbeTableLawful → s.ZonesLawful → s.OutputsLawful → s.DeadlinesOnTime →
    step s = .next t → t.DeadlinesOnTime

/-- An expiry row of a deadline that is disarmed or still ahead has no effect, and neither has a DUTY_END before its time; the
spec says that such an expiry does not happen, and that the row then does nothing is the model's reading
(notes/assumptions/3.md). The one expiry that a count reached and no row has taken is taken by the TICK that ends the count, as
its row takes it (R27, notes/assumptions/5.md). What DUTY_END ends is a field of the model's own (notes/assumptions/12.md). -/
def Obligations.ExpiriesAwaitTheirDeadline : Prop :=
  ∀ s : State,
    (∀ a, awaits s (fun t => t.silenceDeadline a) → exec (.silenceExpiry a) s = .next s.settle) ∧
    (∀ z k, deadlineDue (s.slotDeadline z k) = false → awaits s (fun t => t.slotDeadline z k) →
      exec (.slotExpiry z k) s = .next s.settle) ∧
    (∀ z, awaits s (fun t => (t.zone z).trendDeadline) → exec (.trendExpiry z) s = .next s.settle) ∧
    (∀ z, awaits s (fun t => t.persistenceDeadline z) → exec (.persistenceExpiry z) s = .next s.settle) ∧
    (∀ z, awaits s (fun t => (t.zone z).blind) → exec (.blindExpiry z) s = .next s.settle) ∧
    (∀ i, awaits s (fun t => (t.wetInput i).deadline) → exec (.qualificationExpiry i) s = .next s.settle) ∧
    (∀ i, awaits s (fun t => (t.output i).boundary) → exec (.periodBoundary i) s = .next s.settle) ∧
    (∀ i t, s.meets t →
      ((t.output i).enabled = false ∨ (t.output i).driven = false ∨ withinDuty (t.output i) t.counter = true) →
      exec (.dutyEnd i) s = .next t) ∧
    (s.settled = true → s.NothingWaitsIdle → s.ProbeTableLawful →
      (∀ a e, s.expires s (fun t => t.silenceDeadline a) → s.findProbe a = some e →
        reachesNothing { s with probes := rewritten s.probes { e with silence := none } } →
        countsAfter (.silenceExpiry a) s) ∧
      (∀ z k, s.expires s (fun t => t.slotDeadline z k) →
        reachesNothing (s.setZone z { s.zone z with slots := (s.zone z).slots.set k .empty }) →
        countsAfter (.slotExpiry z k) s) ∧
      (∀ z, s.expires s (fun t => (t.zone z).trendDeadline) →
        reachesNothing (s.setZone z { s.zone z with trendDeadline := none }) → countsAfter (.trendExpiry z) s) ∧
      (∀ z, s.expires s (fun t => t.persistenceDeadline z) →
        reachesNothing (s.setZone z { s.zone z with persistence := none }) → countsAfter (.persistenceExpiry z) s) ∧
      (∀ z, s.expires s (fun t => (t.zone z).blind) →
        reachesNothing (s.setZone z { s.zone z with blind := none }) → countsAfter (.blindExpiry z) s) ∧
      (∀ i, s.expires s (fun t => (t.wetInput i).deadline) →
        reachesNothing (s.setWetInput i { s.wetInput i with deadline := none }) →
        countsAfter (.qualificationExpiry i) s) ∧
      (∀ i, s.expires s (fun t => (t.output i).boundary) →
        reachesNothing (s.setOutput i { s.output i with boundary := none }) → countsAfter (.periodBoundary i) s) ∧
      (∀ i, (s.output i).enabled = true → (s.output i).driven = true → withinDuty (s.output i) s.counter = false →
        s.resetLow = false → reachesNothing (s.setOutput i { s.output i with driven := false }) →
        countsAfter (.dutyEnd i) s))

/-! ## The receive pairs -/

/-- Field symbols before completion: a marked symbol begins a frame, an unmarked one in IDLE is stray, HUNT drops unmarked ones,
a marked one in RECEIVING truncates, and an unmarked one continues the record, position 2 giving the address parity and position
3 the length, above 60 an overlength; each is acknowledged (R4, R5, R6, R8). -/
def Obligations.FieldSymbolsBuildFrames : Prop :=
  ∀ (s t : State) (w : Symbol), s.meets t → t.fieldRx.strobe = false → t.fieldRx.ack = false →
    (t.fieldAsm = .idle → w.getLsbD 8 = true →
      exec (.fieldSymbolArrival w) s = .next (fieldAfter t (.receiving (freshRecord w)))) ∧
    (t.fieldAsm = .idle → w.getLsbD 8 = false →
      exec (.fieldSymbolArrival w) s = .next ((fieldAfter t .idle).post (.line .fieldStray))) ∧
    (t.fieldAsm = .hunt → w.getLsbD 8 = true →
      exec (.fieldSymbolArrival w) s = .next (fieldAfter t (.receiving (freshRecord w)))) ∧
    (t.fieldAsm = .hunt → w.getLsbD 8 = false → exec (.fieldSymbolArrival w) s = .next (fieldAfter t .hunt)) ∧
    ∀ r, t.fieldAsm = .receiving r →
      (w.getLsbD 8 = true →
        exec (.fieldSymbolArrival w) s =
          .next ((fieldAfter t (.receiving (freshRecord w))).post (.line .fieldTruncated))) ∧
      (w.getLsbD 8 = false → r.bytes.length = 1 →
        exec (.fieldSymbolArrival w) s =
          .next (fieldAfter t (.receiving { extended r w with addrParity := some (goodParity w) }))) ∧
      (w.getLsbD 8 = false → r.bytes.length = 2 → (w.extractLsb' 0 8).toNat ≤ 60 →
        exec (.fieldSymbolArrival w) s =
          .next (fieldAfter t (.receiving { extended r w with len := some (w.extractLsb' 0 8).toNat }))) ∧
      (w.getLsbD 8 = false → r.bytes.length = 2 → 60 < (w.extractLsb' 0 8).toNat →
        exec (.fieldSymbolArrival w) s = .next ((fieldAfter t .hunt).post (.line .fieldOverlength))) ∧
      (∀ n, w.getLsbD 8 = false → r.len = some n → 3 ≤ r.bytes.length → r.bytes.length < n + 3 →
        exec (.fieldSymbolArrival w) s = .next (fieldAfter t (.receiving (extended r w))))

/-- Station symbols before completion: as on the field line, with the station subjects and without an address-parity indication
(R151). -/
def Obligations.StationSymbolsBuildFrames : Prop :=
  ∀ (s t : State) (w : Symbol), s.meets t → t.stationRx.strobe = false → t.stationRx.ack = false →
    (t.stationAsm = .idle → w.getLsbD 8 = true →
      exec (.stationSymbolArrival w) s = .next (stationAfter t (.receiving (freshRecord w)))) ∧
    (t.stationAsm = .idle → w.getLsbD 8 = false →
      exec (.stationSymbolArrival w) s = .next ((stationAfter t .idle).post (.line .stationStray))) ∧
    (t.stationAsm = .hunt → w.getLsbD 8 = true →
      exec (.stationSymbolArrival w) s = .next (stationAfter t (.receiving (freshRecord w)))) ∧
    (t.stationAsm = .hunt → w.getLsbD 8 = false →
      exec (.stationSymbolArrival w) s = .next (stationAfter t .hunt)) ∧
    ∀ r, t.stationAsm = .receiving r →
      (w.getLsbD 8 = true →
        exec (.stationSymbolArrival w) s =
          .next ((stationAfter t (.receiving (freshRecord w))).post (.line .stationTruncated))) ∧
      (w.getLsbD 8 = false → r.bytes.length = 1 →
        exec (.stationSymbolArrival w) s =
          .next (stationAfter t (.receiving { extended r w with addrParity := none }))) ∧
      (w.getLsbD 8 = false → r.bytes.length = 2 → (w.extractLsb' 0 8).toNat ≤ 60 →
        exec (.stationSymbolArrival w) s =
          .next (stationAfter t (.receiving { extended r w with len := some (w.extractLsb' 0 8).toNat }))) ∧
      (w.getLsbD 8 = false → r.bytes.length = 2 → 60 < (w.extractLsb' 0 8).toNat →
        exec (.stationSymbolArrival w) s = .next ((stationAfter t .hunt).post (.line .stationOverlength))) ∧
      (∀ n, w.getLsbD 8 = false → r.len = some n → 3 ≤ r.bytes.length → r.bytes.length < n + 3 →
        exec (.stationSymbolArrival w) s = .next (stationAfter t (.receiving (extended r w))))

/-- The final symbol of a field frame: a damaged frame posts FIELD_PARITY and a failing sum FIELD_CHECK, either with a
damaged-frame report when the address symbol was good; a good frame is queued with the counter as its stamp, or held with
FIELD_HELD and without an acknowledge when six wait (R9 to R11, R42). The uplink arbiter then chooses
(notes/assumptions/7.md). -/
def Obligations.FieldFrameCompletes : Prop :=
  ∀ (s t : State) (w : Symbol) (r : FrameRecord) (n : Nat), s.meets t → t.fieldRx.strobe = false → t.fieldRx.ack = false →
    t.fieldAsm = .receiving r → w.getLsbD 8 = false → r.len = some n → r.bytes.length = n + 3 →
    let whole := extended r w
    let reported (u : State) : State :=
      match t.findProbe (whole.bytes.getD 1 0) with
      | some e => if r.addrParity = some true then damageCounted u e else u
      | none => u
    (whole.damaged = true →
      exec (.fieldSymbolArrival w) s =
        .next (State.arbitrate (reported ((fieldAfter t .idle).post (.line .fieldParity))))) ∧
    (whole.damaged = false → whole.bytes.foldl (· + ·) 0 ≠ 0 →
      exec (.fieldSymbolArrival w) s =
        .next (State.arbitrate (reported ((fieldAfter t .idle).post (.line .fieldCheck))))) ∧
    (whole.damaged = false → whole.bytes.foldl (· + ·) 0 = 0 → t.intake.length < 6 →
      exec (.fieldSymbolArrival w) s =
        .next (State.arbitrate
          { fieldAfter t .idle with intake := t.intake ++ [{ bytes := whole.bytes, stamp := t.counter }] })) ∧
    (whole.damaged = false → whole.bytes.foldl (· + ·) 0 = 0 → 6 ≤ t.intake.length →
      exec (.fieldSymbolArrival w) s =
        .next (State.arbitrate
          (State.post
            { t with
              fieldAsm := .hold { whole with stamp := some t.counter }, fieldRx := { strobe := true, ack := false } }
            (.line .fieldHeld))))

/-- The final symbol of a station frame: STATION_PARITY, STATION_CHECK; for the own address a COMMAND is executed, or held while
the response slot is full, and any other kind posts STATION_STRAY; for any other address the frame goes to the field-out queue,
or is held while four wait (R152 to R154). The uplink arbiter then chooses (notes/assumptions/7.md). The data lines keep what
they hold while FTSTB is low (notes/assumptions/10.md). -/
def Obligations.StationFrameCompletes : Prop :=
  ∀ (s t : State) (w : Symbol) (r : FrameRecord) (n : Nat),
    s.meets t → t.stationRx.strobe = false → t.stationRx.ack = false →
    t.stationAsm = .receiving r → w.getLsbD 8 = false → r.len = some n → r.bytes.length = n + 3 →
    let whole := extended r w
    let own := whole.bytes.getD 1 0 = t.ownAddress
    let command := (whole.bytes.getD 0 0).toNat / 16 = 4
    let held : State := { t with stationAsm := .hold whole, stationRx := { strobe := true, ack := false } }
    (whole.damaged = true →
      exec (.stationSymbolArrival w) s =
        .next (State.arbitrate ((stationAfter t .idle).post (.line .stationParity)))) ∧
    (whole.damaged = false → whole.bytes.foldl (· + ·) 0 ≠ 0 →
      exec (.stationSymbolArrival w) s =
        .next (State.arbitrate ((stationAfter t .idle).post (.line .stationCheck)))) ∧
    (whole.damaged = false → whole.bytes.foldl (· + ·) 0 = 0 →
      (own → command → t.response = none →
        exec (.stationSymbolArrival w) s =
          .next (State.arbitrate
            ((stationAfter t .idle).runCommand ((whole.bytes.drop 3).take (whole.bytes.getD 2 0).toNat)))) ∧
      (own → command → t.response.isSome = true →
        exec (.stationSymbolArrival w) s = .next (State.arbitrate held)) ∧
      (own → ¬ command →
        exec (.stationSymbolArrival w) s =
          .next (State.arbitrate ((stationAfter t .idle).post (.line .stationStray)))) ∧
      (¬ own → t.fieldOut.length < 4 → t.fieldTx.sender = .idle → t.fieldOut = [] →
        exec (.stationSymbolArrival w) s =
          .next (State.arbitrate { stationAfter t .idle with fieldTx := taking t.fieldTx whole.bytes })) ∧
      (¬ own → t.fieldOut.length < 4 → t.fieldTx.sender ≠ .idle →
        exec (.stationSymbolArrival w) s =
          .next (State.arbitrate { stationAfter t .idle with fieldOut := t.fieldOut ++ [whole.bytes] })) ∧
      (¬ own → 4 ≤ t.fieldOut.length →
        exec (.stationSymbolArrival w) s = .next (State.arbitrate held)))

/-- A falling strobe lowers the acknowledge; the 20 ms timeout discards the frame being received and posts its subject, and
outside RECEIVING it does not run; a strobe that rises while the pair is not ready or a frame is held is not sampled (R2, R7,
R151). That a timeout outside RECEIVING, and a strobe that rises or falls where it already stands so, has no effect is the
model's reading (notes/assumptions/3.md), and so is that a strobe that is not sampled leaves only its level on record
(notes/assumptions/16.md); the timeouts may come at any time while their timer runs (notes/assumptions/6.md). -/
def Obligations.StrobeFallsAndTimeouts : Prop :=
  ∀ s t : State, s.meets t →
    exec .fieldReceiveStrobeFall s = .next { t with fieldRx := { strobe := false, ack := false } } ∧
    exec .stationReceiveStrobeFall s = .next { t with stationRx := { strobe := false, ack := false } } ∧
    (∀ r, t.fieldAsm = .receiving r →
      exec .fieldInterSymbolTimeout s = .next (State.post { t with fieldAsm := .idle } (.line .fieldTimeout))) ∧
    (∀ r, t.stationAsm = .receiving r →
      exec .stationInterSymbolTimeout s = .next (State.post { t with stationAsm := .idle } (.line .stationTimeout))) ∧
    ((∀ r, t.fieldAsm ≠ .receiving r) → exec .fieldInterSymbolTimeout s = .next t) ∧
    ((∀ r, t.stationAsm ≠ .receiving r) → exec .stationInterSymbolTimeout s = .next t) ∧
    (∀ w, t.fieldRx.strobe = true ∨ t.fieldRx.ack = true ∨ t.fieldAsm.holding = true →
      exec (.fieldSymbolArrival w) s = .next { t with fieldRx := { t.fieldRx with strobe := true } }) ∧
    (∀ w, t.stationRx.strobe = true ∨ t.stationRx.ack = true ∨ t.stationAsm.holding = true →
      exec (.stationSymbolArrival w) s = .next { t with stationRx := { t.stationRx with strobe := true } })

/-! ## The transmit pairs and the arbiter -/

/-- The field transmitter: an acknowledge lowers FTSTB and goes on to the next symbol, or after the last to IDLE, where the next
queued frame is taken; a falling acknowledge presents the waiting symbol; the allowance abandons the frame, posts FIELD_STALL
and takes the next queued frame; a rise after an abandoned symbol acknowledges nothing, whatever is on the line. A frame held
for the field fills the place a taken frame frees, and a held COMMAND stays held (R16 to R18, R154; that such a rise comes once
is notes/assumptions/16.md). The data lines are kept while FTSTB is low (notes/assumptions/10.md), an allowance expiry in IDLE
and an acknowledge that falls where it stands low have no effect (notes/assumptions/3.md), and the allowance may end at any time
while it runs (notes/assumptions/6.md): these are the model's choices. -/
def Obligations.FieldTransmitterSends : Prop :=
  ∀ s t : State, s.meets t →
    (∀ f p, t.fieldTx.sender = .sending f p → t.fieldTx.strobe = true → t.fieldTx.ack = false → t.fieldTx.owed = false →
      (p < f.length →
        exec .fieldSymbolAcknowledged s =
          .next { t with fieldTx := acknowledged t.fieldTx (.sending f (p + 1)) }) ∧
      (f.length ≤ p →
        exec .fieldSymbolAcknowledged s = .next (fieldNext { t with fieldTx := acknowledged t.fieldTx .idle }))) ∧
    (t.fieldTx.owed = true → t.fieldTx.ack = false → t.fieldTx.sender ≠ .idle ∨ t.fieldOut = [] →
      exec .fieldSymbolAcknowledged s = .next { t with fieldTx := { t.fieldTx with ack := true, owed := false } }) ∧
    (∀ f p, t.fieldTx.sender = .sending f p → t.fieldTx.strobe = false →
      exec .fieldTransmitAckFall s =
        .next
          { t with
            fieldTx := { t.fieldTx with data := mkSymbol (f.getD (p - 1) 0) (p == 1), strobe := true, ack := false } }) ∧
    (t.fieldTx.sender = .idle ∨ t.fieldTx.strobe = true →
      exec .fieldTransmitAckFall s = .next { t with fieldTx := { t.fieldTx with ack := false } }) ∧
    (t.fieldTx.sender ≠ .idle →
      exec .fieldAllowanceExpiry s =
        .next ((fieldNext { t with fieldTx := abandoned t.fieldTx }).post (.line .fieldStall))) ∧
    (t.fieldTx.sender = .idle → t.fieldOut = [] → t.fieldTx.owed = false →
      exec .fieldSymbolAcknowledged s = .next { t with fieldTx := { t.fieldTx with ack := true } }) ∧
    (t.fieldTx.sender = .idle → exec .fieldAllowanceExpiry s = .next t)

/-- The station transmitter: as the field transmitter, and each return to IDLE lets the arbiter choose again (R160; that the
rise of an abandoned symbol comes once is notes/assumptions/16.md). The data lines are kept while STSTB is low
(notes/assumptions/10.md), an allowance expiry in IDLE and an acknowledge that falls where it stands low have no effect
(notes/assumptions/3.md), and the allowance may end at any time while it runs (notes/assumptions/6.md): these are the model's
choices. -/
def Obligations.StationTransmitterSends : Prop :=
  ∀ s t : State, s.meets t →
    (∀ f p, t.stationTx.sender = .sending f p → t.stationTx.strobe = true → t.stationTx.ack = false →
      t.stationTx.owed = false →
      (p < f.length →
        exec .stationSymbolAcknowledged s =
          .next { t with stationTx := acknowledged t.stationTx (.sending f (p + 1)) }) ∧
      (f.length ≤ p →
        exec .stationSymbolAcknowledged s =
          .next (State.arbitrate { t with stationTx := acknowledged t.stationTx .idle }))) ∧
    (t.stationTx.owed = true → t.stationTx.ack = false → t.stationTx.sender ≠ .idle →
      exec .stationSymbolAcknowledged s = .next { t with stationTx := { t.stationTx with ack := true, owed := false } }) ∧
    (t.stationTx.ack = false → t.stationTx.sender = .idle →
      exec .stationSymbolAcknowledged s =
        .next (State.arbitrate { t with stationTx := { t.stationTx with ack := true, owed := false } })) ∧
    (∀ f p, t.stationTx.sender = .sending f p → t.stationTx.strobe = false →
      exec .stationTransmitAckFall s =
        .next
          { t with
            stationTx :=
              { t.stationTx with data := mkSymbol (f.getD (p - 1) 0) (p == 1), strobe := true, ack := false } }) ∧
    (t.stationTx.sender = .idle ∨ t.stationTx.strobe = true →
      exec .stationTransmitAckFall s = .next { t with stationTx := { t.stationTx with ack := false } }) ∧
    (t.stationTx.sender ≠ .idle →
      exec .stationAllowanceExpiry s =
        .next (State.arbitrate (State.post { t with stationTx := abandoned t.stationTx } (.line .stationStall)))) ∧
    (t.stationTx.sender = .idle → exec .stationAllowanceExpiry s = .next t)

/-- A frame marked for the station line keeps its upper kind bits, address, length and payload; its attention mark says whether
a kind is pending, its top notice names the pending kind of lowest code, and its bytes sum to 0 (R159, R181, R186). Every symbol
the part sends carries its byte, the marker on the first alone, and an odd number of ones (R1). -/
def Obligations.OutgoingFramesAreMarked : Prop :=
  (∀ (n : NoticeSets) (kind : Byte) (rest : List Byte), rest ≠ [] →
    let out := markFrame n (kind :: rest)
    let k := out.getD 0 0
    out.foldl (· + ·) 0 = 0 ∧ out.length = rest.length + 1 ∧ (out.drop 1).dropLast = rest.dropLast ∧
      k.extractLsb' 4 4 = kind.extractLsb' 4 4 ∧
      (k.getLsbD 3 = true ↔ ∃ c, kindPending n c = true) ∧
      ((∀ c, kindPending n c = false) → k.extractLsb' 0 3 = 0) ∧
      ∀ c, kindPending n c = true → (∀ d < c, kindPending n d = false) → (k.extractLsb' 0 3).toNat = c) ∧
  ∀ (b : Byte) (first : Bool),
    goodParity (mkSymbol b first) = true ∧ (mkSymbol b first).extractLsb' 0 8 = b ∧ (mkSymbol b first).getLsbD 8 = first

/-- The uplink arbiter: a busy transmitter is left alone; else the response goes, then a verdict while fewer than four have
passed a waiting forwarded frame, then the head forwarded frame; the start of a response executes a held COMMAND, and leaves a
frame held for the field as it is (R154, R158, R159; the mark is written before that COMMAND runs, notes/assumptions/8.md). The
data lines keep what they hold while STSTB is low (notes/assumptions/10.md). -/
def Obligations.ArbiterChooses : Prop :=
  ∀ u : State,
    (u.stationTx.sender ≠ .idle → u.arbitrate = u) ∧
    (u.stationTx.sender = .idle →
      (∀ f, u.response = some f → u.stationAsm.holding = false →
        u.arbitrate = leaving { u with response := none, verdictRun := 0 } f) ∧
      (∀ f r, u.response = some f → u.stationAsm = .hold r → r.bytes.getD 1 0 = u.ownAddress →
        (r.bytes.getD 0 0).toNat / 16 = 4 →
        u.arbitrate =
          State.runCommand
            { leaving { u with response := none, verdictRun := 0 } f with
              stationAsm := .idle, stationRx := { strobe := u.stationRx.strobe, ack := u.stationRx.strobe } }
            ((r.bytes.drop 3).take (r.bytes.getD 2 0).toNat)) ∧
      (∀ f r, u.response = some f → u.stationAsm = .hold r →
        r.bytes.getD 1 0 ≠ u.ownAddress ∨ (r.bytes.getD 0 0).toNat / 16 ≠ 4 →
        u.arbitrate = leaving { u with response := none, verdictRun := 0 } f) ∧
      (∀ v rest, u.response = none → u.verdicts = v :: rest → u.verdictRun < 4 ∨ u.forward = [] →
        u.arbitrate =
          leaving { u with verdicts := rest, verdictRun := min 4 (u.verdictRun + 1) }
            (mkFrame 6 u.ownAddress
              (b8 v.zone ++ b8 v.fromState.code ++ b8 v.toState.code ++ b8 v.cause.code ++ known v.readings.m
                ++ known v.readings.d ++ known v.readings.s ++ b24 v.stamp))) ∧
      (∀ f rest, u.response = none → u.verdicts = [] ∨ 4 ≤ u.verdictRun → u.forward = f :: rest →
        u.arbitrate = leaving { u with forward := rest, verdictRun := 0 } f) ∧
      (u.response = none → u.verdicts = [] → u.forward = [] → u.arbitrate = u))

/-! ## The Intake Classifier -/

/-- A head that is no SAMPLE of a tabled probe is forwarded as received while the forward queue has room, a held frame taking
the freed place with its own stamp; a head bound for a full forward queue waits (R12, R47, R48, R51). The uplink arbiter then
chooses (notes/assumptions/7.md). That the row does nothing else on an empty queue or a head that cannot be finished is the
model's reading (notes/assumptions/3.md). -/
def Obligations.ClassifierForwardsOrWaits : Prop :=
  ∀ s t : State, s.meets t →
    (t.intake = [] → exec .classifierTakeHead s = .next t.arbitrate) ∧
    ∀ f rest, t.intake = f :: rest →
      (((f.bytes.getD 0 0).toNat / 16 ≠ 1 ∨ t.findProbe (f.bytes.getD 1 0) = none) → t.forward.length < 8 →
        (t.fieldAsm.holding = false →
          exec .classifierTakeHead s =
            .next (State.arbitrate { t with intake := rest, forward := t.forward ++ [f.bytes] })) ∧
        (∀ r stamp, t.fieldAsm = .hold r → r.stamp = some stamp →
          exec .classifierTakeHead s =
            .next (State.arbitrate
              { t with
                intake := rest ++ [{ bytes := r.bytes, stamp := stamp }], forward := t.forward ++ [f.bytes]
                fieldAsm := .idle, fieldRx := { strobe := t.fieldRx.strobe, ack := t.fieldRx.strobe } }))) ∧
      (8 ≤ t.forward.length →
        ((f.bytes.getD 0 0).toNat / 16 ≠ 1 ∨
          ∀ e, t.findProbe (f.bytes.getD 1 0) = some e → e.load.action = .forward) →
        exec .classifierTakeHead s = .next t.arbitrate)

/-- A good SAMPLE of a SURFACE or WATER probe: the entry becomes LIVE with count 0, the frame's stamp and a silence deadline
from it; its last value is VOID for a nonzero status, else the calibrated temperature, the credit added for WATER; the zone is
evaluated exactly when the contribution changed; the frame leaves by the entry's action; a held frame takes the freed place
(R12, R40, R44, R50, R51, R77). The uplink arbiter chooses after the evaluation and the forwarding (notes/assumptions/7.md). -/
def Obligations.SurfaceSampleSetsTheValue : Prop :=
  ∀ (s t : State) (f : IntakeFrame) (rest : List IntakeFrame) (e : ProbeEntry), s.meets t → sampleReady t f rest e →
    (f.bytes.getD 2 0).toNat = 5 → 8 ≤ f.bytes.length → e.load.kind ≠ .air →
    let code := min 4095 (256 * payloadByte f.bytes 1 + payloadByte f.bytes 2)
    let limited (x : Int) : Int := max (-4000) (min 8500 x)
    let scaled := roundQuotient t.arith.mode ((e.load.aHigh - e.load.aLow).toNat * code) 4095
    let temperature := limited (e.load.aLow + scaled + e.load.aTrim)
    let value : LastValue :=
      if payloadByte f.bytes 0 ≠ 0 then .void
      else if e.load.kind = .water then .value (limited (temperature + e.load.credit)) else .value temperature
    let heard := heardEntry e t.counter f.stamp value
    let written : State := { headGone t rest with probes := rewritten t.probes heard }
    let treated := if e.contribution = heard.contribution then written else written.evaluate e.load.zone
    exec .classifierTakeHead s = .next (State.arbitrate (disposed treated f.bytes e.load.action))

/-- A good SAMPLE of an AIR probe: the entry becomes LIVE; a nonzero status pushes VOID and runs no stage; else the conversion's
sticky flags and ARITH subjects stand, the deferred marks are cleared, and a dew point is pushed unless the conversion stopped;
a push into a DORMANT zone is dropped; the frame leaves by the entry's action; a held frame takes the freed place (R12, R40,
R49, R51, R66, R67, R75, R76, R81). The uplink arbiter chooses after the postings, the evaluation and the forwarding
(notes/assumptions/7.md). -/
def Obligations.AirSamplePushes : Prop :=
  ∀ (s t : State) (f : IntakeFrame) (rest : List IntakeFrame) (e : ProbeEntry), s.meets t → sampleReady t f rest e →
    (f.bytes.getD 2 0).toNat = 5 → 8 ≤ f.bytes.length → e.load.kind = .air →
    let codeA := min 4095 (256 * payloadByte f.bytes 1 + payloadByte f.bytes 2)
    let codeB := min 4095 (256 * payloadByte f.bytes 3 + payloadByte f.bytes 4)
    let v := convertAir t.arith t.curve t.sticky t.deferred e.load codeA codeB
    let heard : State :=
      { headGone t rest with probes := rewritten t.probes (heardEntry e t.counter f.stamp e.lastValue) }
    let converted : State :=
      { heard with
        sticky := v.sticky, deferred := 0
        noticePending := { t.noticePending with arith := t.noticePending.arith ||| v.posted } }
    (payloadByte f.bytes 0 ≠ 0 →
      exec .classifierTakeHead s =
        .next (State.arbitrate (disposed (pushed heard e.load.zone f.stamp none) f.bytes e.load.action))) ∧
    (∀ d, payloadByte f.bytes 0 = 0 → v.dew = some d →
      exec .classifierTakeHead s =
        .next (State.arbitrate (disposed (pushed converted e.load.zone f.stamp (some d)) f.bytes e.load.action))) ∧
    (payloadByte f.bytes 0 = 0 → v.dew = none →
      exec .classifierTakeHead s = .next (State.arbitrate (disposed converted f.bytes e.load.action)))

/-- A SAMPLE of a tabled probe whose length is not 5 counts as a damaged frame and leaves by the entry's action, a held frame
taking the freed place; a damaged-frame report counts likewise, and one for an untabled address has no effect: counts below 2 go
up by one with nothing else moved, the third makes the entry FAULTY with its deadline disarmed, PROBE_LOST posted and the zone
evaluated if it contributed, and a FAULTY entry stays (R12, R42, R43, R48). After such a SAMPLE the uplink arbiter chooses once
the evaluation, the posting and the forwarding stand (notes/assumptions/7.md). -/
def Obligations.DamagedFramesCount : Prop :=
  (∀ (s t : State) (f : IntakeFrame) (rest : List IntakeFrame) (e : ProbeEntry), s.meets t → sampleReady t f rest e →
    (f.bytes.getD 2 0).toNat ≠ 5 →
    exec .classifierTakeHead s =
      .next (State.arbitrate (disposed (damageCounted (headGone t rest) e) f.bytes e.load.action))) ∧
  ∀ (u : State) (a : Byte),
    (u.findProbe a = none → u.damagedReport a = u) ∧
    (∀ e, u.findProbe a = some e → u.damagedReport a = damageCounted u e)

/-! ## Expiries -/

/-- A silence expiry makes the entry STALE, disarms it, evaluates the zone if it contributed and posts PROBE_LOST (R41); a slot
expiry empties the slot with TOP kept and evaluates the zone, and of slots due at once any may go first (R83, R86); a trend
expiry forms the slope from the start value to D, makes D the start value, re-arms from the old deadline and evaluates the zone
(R28, R102). The uplink arbiter chooses after the evaluation and the posting (notes/assumptions/7.md). That the row of a slot
due at once takes it before the part's other due expiries is the model's choice (notes/assumptions/4.md). -/
def Obligations.DeadlineExpiries : Prop :=
  ∀ s t : State,
    (∀ a e, s.expires t (fun u => u.silenceDeadline a) → t.findProbe a = some e →
      exec (.silenceExpiry a) s = .next (silenceTaken t e)) ∧
    (∀ z k,
      (deadlineDue (s.slotDeadline z k) = false ∧ s.expires t (fun u => u.slotDeadline z k)) ∨
        (s.resetLow = false ∧ deadlineDue (s.slotDeadline z k) = true ∧ t = s) →
      exec (.slotExpiry z k) s = .next (slotTaken t z k)) ∧
    (∀ z a, s.expires t (fun u => (u.zone z).trendDeadline) → (t.zone z).trendDeadline = some a →
      let slope : Option Int :=
        match (t.zone z).trendStart, (t.zone z).dew with
        | some x, some d => some (max (-32767) (min 32767 (d - x)))
        | _, _ => none
      exec (.trendExpiry z) s =
        .next (State.arbitrate
          (State.evaluate
            (t.setZone z
              { t.zone z with
                slope := slope, trendStart := (t.zone z).dew
                trendDeadline :=
                  some { time := a.time + BitVec.ofNat 24 (min (t.zone z).interval 65535), due := false } })
            z)))

/-- A persistence expiry of a zone in WATCH enters the stored candidate with cause PERSISTENCE, and a blind expiry of a level
enters BLIND with cause BLIND; the deadlines named go, the verdict, the notice and the ALERT line follow, and nothing else
moves: neither is an evaluation (R122, R123, R126 to R128). The uplink arbiter chooses after the verdict entry and the notice,
so a verdict that leaves at once is marked with that notice (notes/assumptions/7.md). -/
def Obligations.RiskDeadlinesExpire : Prop :=
  ∀ (s t : State) (z : Fin 24),
    (∀ p, s.expires t (fun u => u.persistenceDeadline z) → (t.zone z).persistence = some p →
      (t.zone z).state = .watch → exec (.persistenceExpiry z) s = .next (persistenceTaken t z p)) ∧
    (s.expires t (fun u => (u.zone z).blind) → (t.zone z).state.isLevel = true →
      exec (.blindExpiry z) s = .next (blindTaken t z))

/-! ## The Discrete I/O Unit -/

/-- A wet pin that changes level starts or cancels a qualification by the state, and one that keeps its level changes nothing; a
qualification expiry takes the change, stamps it, rewrites the mapped zone's wet flag and evaluates the zone if that changed it,
and posts WET when the selection matches (R135 to R137). The uplink arbiter chooses after the evaluation and the posting
(notes/assumptions/7.md); that a change to the level already there does nothing is the model's reading (notes/assumptions/3.md).
-/
def Obligations.WetContactsQualify : Prop :=
  ∀ (s t : State) (i : Fin 4),
    let r := t.wetInput i
    let starts : Deadline := some (setDeadline t.counter t.counter r.qualify)
    (∀ high, s.meets t → r.pin = high → exec (.wetLevelChange i high) s = .next t) ∧
    (∀ high, s.meets t → r.pin ≠ high →
      (r.state = .dry → high = r.wetLevel →
        exec (.wetLevelChange i high) s = .next (t.setWetInput i { r with pin := high, state := .toWet, deadline := starts })) ∧
      (r.state = .toWet → high ≠ r.wetLevel →
        exec (.wetLevelChange i high) s = .next (t.setWetInput i { r with pin := high, state := .dry, deadline := none })) ∧
      (r.state = .wet → high ≠ r.wetLevel →
        exec (.wetLevelChange i high) s = .next (t.setWetInput i { r with pin := high, state := .toDry, deadline := starts })) ∧
      (r.state = .toDry → high = r.wetLevel →
        exec (.wetLevelChange i high) s = .next (t.setWetInput i { r with pin := high, state := .wet, deadline := none }))) ∧
    (s.expires t (fun u => (u.wetInput i).deadline) → r.state = .toWet ∨ r.state = .toDry →
      exec (.qualificationExpiry i) s = .next (qualificationTaken t i))

/-- A period boundary begins a period at the counter with the period field, the duty of R143 limited to it, and the next
boundary one period on from the old one (R28, R142). The level of an output falls when the elapsed time reaches the duty, and a
full duty has no fall; DUTY_END then ends the active part of the period and moves nothing else (R144; that the end has a field of
its own is notes/assumptions/12.md). -/
def Obligations.OutputPeriodsRun : Prop :=
  ∀ (s t : State) (i : Fin 4),
    let o := t.output i
    (∀ a, s.expires t (fun u => (u.output i).boundary) → o.boundary = some a →
      exec (.periodBoundary i) s = .next (t.setOutput i (begun t a.time o))) ∧
    (s.meets t → o.enabled = true → o.driven = true → withinDuty o t.counter = false →
      exec (.dutyEnd i) s = .next (t.setOutput i { o with driven := false })) ∧
    ∀ now : Stamp,
      let active := o.enabled = true ∧ o.driven = true ∧ withinDuty o now = true
      o.pinHigh now = true ↔ (o.polarity = .activeHigh ↔ active)

/-- The duty of a period before its limit: the manual duty in MANUAL; else the whole period with a CONDENSING zone in the set;
else from w, the smallest known margin of the enabled zones of the set: the whole period for w ≤ 0, 0 for w ≥ B, and
(B − w) × period / B rounded down between; else the fallback (R142 step 3, R143). -/
def Obligations.DutyFollowsTheSmallestMargin : Prop :=
  ∀ (u : State) (o : Output),
    let inSet (z : Fin 24) := o.zones.getLsbD z = true
    let marginOfZone (z : Fin 24) : Option Int :=
      if (u.zone z).enabled = true then
        match u.surfaceMin z, (u.zone z).dew with
        | some a, some d => some (max (-32767) (min 32767 (a - d)))
        | _, _ => none
      else none
    (o.mode = .manual → u.duty o = (o.manual, .manual, none)) ∧
    (o.mode = .auto → (∃ z, inSet z ∧ (u.zone z).state = .condensing) → u.duty o = (o.period, .condensing, none)) ∧
    (o.mode = .auto → (∀ z, inSet z → (u.zone z).state ≠ .condensing) →
      ((∀ z, inSet z → marginOfZone z = none) → u.duty o = (o.fallback, .fallback, none)) ∧
      ∀ z w, inSet z → marginOfZone z = some w → (∀ y x, inSet y → marginOfZone y = some x → w ≤ x) →
        ∃ d, u.duty o = (d, .margin, some w) ∧
          (w ≤ 0 → d = o.period) ∧ (0 < w → (o.band : Int) ≤ w → d = 0) ∧
          (0 < w → w < o.band →
            (d : Int) * o.band ≤ (o.band - w) * o.period ∧ (o.band - w) * o.period < (d + 1) * o.band))

/-! ## Commands: judging and answering -/

/-- A COMMAND row is the dispatch of its whole frame as one event (the model's choice, notes/assumptions/2.md): with the slot
empty the payload is executed and the arbiter then chooses; with the slot full the frame is held unacknowledged; while a frame is
held none arrives (R153, R154, R165, R166). -/
def Obligations.CommandFramesRunTheirRow : Prop :=
  ∀ (p : List Byte) (s : State),
    (∀ u, s.hears u → exec (Instr.ofPayload p) s = .next (State.arbitrate (u.runCommand p))) ∧
    (s.resetLow = false → s.settle.stationAsm.holding = false → s.settle.response.isSome = true →
      exec (Instr.ofPayload p) s =
        .next
          { s.settle with
            stationAsm :=
              .hold
                { bytes := mkFrame 4 s.settle.ownAddress p, len := some p.length, damaged := false, addrParity := none
                  stamp := none }
            stationRx := { s.settle.stationRx with ack := false } }) ∧
    (s.resetLow = false → s.settle.stationAsm.holding = true → exec (Instr.ofPayload p) s = .next s.settle)

/-- A payload of a length its code does not allow is refused LENGTH before any field is read, a code that names no command
UNKNOWN whatever the length, and an empty payload LENGTH with code 0 (R167, R168). Which row a payload of a code with two rows
is, is the model's choice (notes/assumptions/14.md). -/
def Obligations.WrongLengthsAndCodesAreRefused : Prop :=
  ∀ (s u : State) (fields : List Byte), s.hears u →
    (∀ code : Byte, 1 ≤ code.toNat → code.toNat ≤ 29 → lengthAllowed code.toNat (fields.length + 1) = false →
      exec (Instr.ofPayload (code :: fields)) s = answered u code.toNat .length []) ∧
    (∀ code : Byte, code.toNat = 0 ∨ 30 ≤ code.toNat →
      exec (.unknownCommand (code :: fields)) s = answered u code.toNat .unknown []) ∧
    exec (.unknownCommand []) s = answered u 0 .length []

/-- A refused command changes nothing in the part, and only a CURVE refusal carries data, one byte (R166, R167). -/
def Obligations.RefusedCommandsChangeNothing : Prop :=
  ∀ (code : Nat) (f : List Byte) (s : State),
    (commandAnswer code f s).result ≠ .done →
    (commandAnswer code f s).state = s ∧
    ((commandAnswer code f s).result ≠ .curve → (commandAnswer code f s).data = []) ∧
    ((commandAnswer code f s).result = .curve → code = 16 ∧ (commandAnswer code f s).data.length = 1)

/-- Every command leaves one RESPONSE in the slot: kind RESPONSE, the own address, the length of its payload, the code byte as
received (0 for an empty payload), the result of the judgement, and at most 57 payload bytes. The result is LENGTH for an empty
payload or a length that the code does not allow, UNKNOWN for a code that names no command, and neither of the two otherwise; a
refusal carries no data, but for the one byte of CURVE (R157, R166 to R168, R186, R188). That it waits there with the attention
mark and the top notice at 0, and so the kind byte 50H, and with a check byte that fits is the model's choice
(notes/assumptions/15.md): R159 writes both as the frame starts to leave. -/
def Obligations.ResponsesFitAFrame : Prop :=
  ∀ (p : List Byte) (s : State),
    ∃ f, (s.runCommand p).response = some f ∧ f.getD 0 0 = 0x50#8 ∧ f.getD 1 0 = s.ownAddress ∧
      f.length = (f.getD 2 0).toNat + 4 ∧ 2 ≤ (f.getD 2 0).toNat ∧ (f.getD 2 0).toNat ≤ 57 ∧
      f.getD 3 0 = p.getD 0 0 ∧ f.foldl (· + ·) 0 = 0 ∧
      let result := (f.getD 4 0).toNat
      (p = [] → result = 2) ∧
      (∀ (code : Byte) (fields : List Byte), p = code :: fields →
        (code.toNat = 0 ∨ 30 ≤ code.toNat → result = 1) ∧
        (1 ≤ code.toNat → code.toNat ≤ 29 →
          (lengthAllowed code.toNat p.length = false → result = 2) ∧
          (lengthAllowed code.toNat p.length = true →
            result = (commandAnswer code.toNat fields s).result.code ∧ result ≠ 1 ∧ result ≠ 2 ∧ result ≤ 7))) ∧
      (result ≠ 0 → (f.getD 2 0).toNat = if result = 7 then 3 else 2)

/-! ## Commands: reads -/

/-- READ TIME, READ ARITHMETIC, READ PROBE, LIST PROBES and READ CURVE answer what stands in their own event and change nothing
but the slot (R29, R38, R39, R61, R65). -/
def Obligations.ReadsOfTimeTablesAndCurve : Prop :=
  ∀ (s u : State), s.hears u →
    exec (.readTime []) s = answered u 1 .done (b24 u.counter) ∧
    exec (.readArithmetic []) s =
      answered u 20 .done
        ([BitVec.ofNat 8 u.arith.mode.code, u.arith.masked.zeroExtend 8, u.sticky.zeroExtend 8, u.deferred.zeroExtend 8]) ∧
    (∀ a : Byte,
      (a.toNat = 0 ∨ 126 < a.toNat → exec (.readProbe [a]) s = answered u 5 .range []) ∧
      (1 ≤ a.toNat → a.toNat ≤ 126 →
        (u.findProbe a = none → exec (.readProbe [a]) s = answered u 5 .absent []) ∧
        ∀ e, u.findProbe a = some e →
          exec (.readProbe [a]) s =
            answered u 5 .done
              ([e.load.address] ++ b8 e.load.kind.code ++ b8 e.load.zone ++ b8 e.load.action.code ++ i16 e.load.aLow
                ++ i16 e.load.aHigh ++ i16 e.load.aTrim ++ i16 e.load.bLow ++ i16 e.load.bHigh ++ i16 e.load.bTrim
                ++ b16 e.load.interval ++ b8 e.load.misses ++ b16 e.load.credit
                ++ b8 e.state.code ++ stamped e.lastArrival ++ e.lastValue.field ++ b8 e.damaged
                ++ deadlineField e.silence))) ∧
    (∀ i : Byte,
      (95 < i.toNat → exec (.listProbes [i]) s = answered u 6 .range []) ∧
      (i.toNat ≤ 95 →
        exec (.listProbes [i]) s =
          answered u 6 .done
            (b8 u.probes.length ++ b8 (min 12 (u.probes.length - i.toNat))
              ++ ((u.probes.drop i.toNat).take 12).map fun e => e.load.address))) ∧
    ∀ i : Byte,
      (31 < i.toNat → exec (.readCurve [i]) s = answered u 18 .range []) ∧
      (i.toNat ≤ 31 →
        exec (.readCurve [i]) s =
          answered u 18 .done
            (i16 u.curve.base ++ b16 u.curve.step ++ b8 u.curve.values.length ++ [i]
              ++ b8 (min 16 (u.curve.values.length - i.toNat))
              ++ ((u.curve.values.drop i.toNat).take 16).flatMap b16
              ++ b8 u.staging.code ++ b8 u.staging.expected))

/-- READ ZONE, READ WINDOW, READ OUTPUT and READ WET INPUTS answer what stands in their own event, with D, S, m, p and the
outcome formed there, and change nothing but the slot; a number out of range is refused RANGE (R89, R108, R109, R139, R147). The
level in READ OUTPUT is formed with a field of the model's own and with a full duty active throughout (notes/assumptions/12.md);
the zone sets run from the most significant byte (notes/assumptions/13.md). -/
def Obligations.ReadsOfZonesAndUnits : Prop :=
  ∀ (s u : State), s.hears u →
    (∀ n : Byte, 24 ≤ n.toNat →
      exec (.readZone [n]) s = answered u 11 .range [] ∧ exec (.readWindow [n]) s = answered u 12 .range []) ∧
    (∀ n : Byte, 4 ≤ n.toNat → exec (.readOutput [n]) s = answered u 24 .range []) ∧
    (∀ z : Fin 24,
      let r := u.zone z
      let d := r.dew
      let m := marginOf (u.surfaceMin z) d
      let p := m.map fun x => projectFrom x r.slope r.lookahead
      exec (.readZone (b8 z)) s =
        answered u 11 .done
          (b8 z ++ flag r.enabled ++ b16 r.age ++ b16 r.interval ++ b8 r.lookahead ++ b16 r.grace
            ++ b16 r.active.w ++ b16 r.active.k ++ b16 r.active.h ++ b16 r.active.p
            ++ (match r.staged with
                | none => [0, 0, 0, 0, 0, 0, 0, 0, 0]
                | some t => [1] ++ b16 t.w ++ b16 t.k ++ b16 t.h ++ b16 t.p)
            ++ b8 r.state.code ++ known d ++ known (u.surfaceMin z) ++ known m ++ known p ++ b8 (outcomeOf m).code
            ++ known r.trendStart ++ known r.slope ++ flag r.wet ++ deadlineField r.trendDeadline
            ++ (match r.persistence with
                | none => [0, 0, 0, 0, 0]
                | some q => [1] ++ b24 q.arming.time ++ b8 q.candidate.state.code)
            ++ deadlineField r.blind)) ∧
    (∀ z : Fin 24,
      exec (.readWindow (b8 z)) s =
        answered u 12 .done
          (b8 z ++ b8 (u.zone z).top ++ b16 (u.zone z).age ++ known (u.zone z).dew
            ++ (u.zone z).slots.toList.flatMap fun k =>
              match k with
              | .empty => [0, 0, 0, 0, 0x80, 0]
              | .valid t d _ => [1] ++ b24 t ++ i16 d
              | .void t _ => [2] ++ b24 t ++ [0x80, 0])) ∧
    (∀ i : Fin 4,
      let o := u.output i
      exec (.readOutput (b8 i)) s =
        answered u 24 .done
          (b8 i ++ flag o.enabled ++ b24 o.zones ++ b16 o.band ++ b16 o.period ++ b16 o.fallback ++ b8 o.polarity.code
            ++ b8 o.mode.code ++ b16 o.manual ++ b16 o.periodInForce ++ b16 o.dutyInForce ++ b24 o.start
            ++ deadlineField o.boundary ++ b8 o.basis.code
            ++ (if o.basis = .margin then known o.w else [0x80, 0])
            ++ flag (o.enabled && o.driven && withinDuty o u.counter) ++ [u.alertSet] ++ flag u.alert)) ∧
    exec (.readWetInputs []) s =
      answered u 26 .done
        ((u.wetInputs.toList.flatMap fun r =>
            (match r.zone with
              | none => b8 255
              | some z => b8 z)
              ++ flag r.wetLevel ++ b8 r.qualify ++ b8 r.selection.code ++ b8 r.state.code ++ flag r.pin ++ b24 r.capture
              ++ deadlineField r.deadline)
          ++ b24 (BitVec.ofFnLE fun z : Fin 24 => (u.zone z).wet))

/-! ## Commands: the Probe Table -/

/-- LOAD PROBE: RANGE for a field out of range, then FULL for a new address with 96 entries; else the loaded part is written at
the place its address gives with the runtime part fresh, the answer saying the entry count and NEW or REPLACED, and the zone of a
replaced entry is evaluated when zone or kind changed or it contributed (R33 to R36). DROP PROBE: RANGE, ABSENT, or the entry
and its PROBE_LOST subjects go and its zone is evaluated (R37). -/
def Obligations.ProbeEntriesAreLoadedAndDropped : Prop :=
  ∀ s u : State, s.hears u → u.ProbeTableLawful →
    (∀ f : List Byte, f.length = 21 → ¬ loadInRange f → exec (.loadProbe f) s = answered u 3 .range []) ∧
    (∀ f : List Byte, f.length = 21 → loadInRange f →
      ∃ p, loadSpelled f p ∧
        (u.findProbe p.address = none → u.probes.length = 96 → exec (.loadProbe f) s = answered u 3 .full []) ∧
        (u.findProbe p.address = none → u.probes.length < 96 →
          exec (.loadProbe f) s =
            answered
              { u with
                probes :=
                  (u.probes.filter fun x => decide (x.load.address.toNat < p.address.toNat))
                    ++ [freshEntry p u.counter]
                    ++ u.probes.filter fun x => decide (p.address.toNat < x.load.address.toNat) }
              3 .done (b8 (u.probes.length + 1) ++ b8 1)) ∧
        ∀ old, u.findProbe p.address = some old →
          let written : State := { u with probes := rewritten u.probes (freshEntry p u.counter) }
          let disturbed := old.load.zone ≠ p.zone ∨ old.load.kind ≠ p.kind ∨ old.contribution ≠ none
          (disturbed →
            exec (.loadProbe f) s =
              answered (written.evaluate old.load.zone) 3 .done (b8 u.probes.length ++ b8 2)) ∧
          (¬ disturbed → exec (.loadProbe f) s = answered written 3 .done (b8 u.probes.length ++ b8 2))) ∧
    ∀ a : Byte,
      (a.toNat = 0 ∨ 126 < a.toNat → exec (.dropProbe [a]) s = answered u 4 .range []) ∧
      (1 ≤ a.toNat → a.toNat ≤ 126 → u.findProbe a = none → exec (.dropProbe [a]) s = answered u 4 .absent []) ∧
      (∀ e, 1 ≤ a.toNat → a.toNat ≤ 126 → u.findProbe a = some e →
        let bit := BitVec.twoPow 128 a.toNat
        exec (.dropProbe [a]) s =
          answered
            (State.evaluate
              { u with
                probes := u.probes.filter fun x => x.load.address != a
                noticePending := { u.noticePending with probeLost := u.noticePending.probeLost &&& ~~~bit }
                noticeArmed := { u.noticeArmed with probeLost := u.noticeArmed.probeLost &&& ~~~bit } }
              e.load.zone)
            4 .done (b8 (u.probes.length - 1)))

/-! ## Commands: zones -/

/-- SET ZONE and STAGE THRESHOLDS: RANGE exactly outside the ranges of R96 and R113, with nothing changed. An accepted SET ZONE
writes A, I, L and G, recomputes the occupied slots when A changed and restarts an enabled zone's trend when I changed; an
accepted STAGE THRESHOLDS makes the values the staged set and leaves the active set; neither evaluates the zone, and the zone
may be enabled or DORMANT. -/
def Obligations.ZoneSettingsAreWritten : Prop :=
  ∀ s u : State, s.hears u →
    (∀ f : List Byte, f.length = 8 →
      let a := u16 f 1
      let i := u16 f 3
      let l := u8 f 5
      let g := u16 f 6
      let fits := u8 f 0 < 24 ∧ (100 ≤ a ∧ a ≤ 36000) ∧ (i = 0 ∨ (100 ≤ i ∧ i ≤ 6000)) ∧ l ≤ 15 ∧ g ≤ 6000
      (¬ fits → exec (.setZone f) s = answered u 7 .range []) ∧
      ∀ z : Fin 24, fits → u8 f 0 = z →
        let old := u.zone z
        let recomputed : Slot → Slot := fun k =>
          match k with
          | .empty => .empty
          | .valid t d _ => .valid t d (setDeadline u.counter t a)
          | .void t _ => .void t (setDeadline u.counter t a)
        let restarted := i ≠ old.interval ∧ old.enabled = true
        exec (.setZone f) s =
          answered
            (u.setZone z
              { old with
                age := a, interval := i, lookahead := l, grace := g
                slots := if a = old.age then old.slots else old.slots.map recomputed
                trendStart := if restarted then (if 0 < i then old.dew else none) else old.trendStart
                slope := if restarted then none else old.slope
                trendDeadline := if restarted then trendFrom u.counter i else old.trendDeadline })
            7 .done f) ∧
    (∀ f : List Byte, f.length = 9 →
      let t : Thresholds := { w := u16 f 1, k := u16 f 3, h := u16 f 5, p := u16 f 7 }
      let fits := u8 f 0 < 24 ∧ 1 ≤ t.k ∧ t.k < t.w ∧ t.w ≤ 3000 ∧ t.h ≤ 500 ∧ t.p ≤ 36000
      (¬ fits → exec (.stageThresholds f) s = answered u 8 .range []) ∧
      ∀ z : Fin 24, fits → u8 f 0 = z →
        let act := (u.zone z).active
        exec (.stageThresholds f) s =
          answered (u.setZone z { u.zone z with staged := some t }) 8 .done
            (f.take 1 ++ b16 act.w ++ b16 act.k ++ b16 act.h ++ b16 act.p ++ f.drop 1))

/-- ENABLE ZONE of a DORMANT zone sets it up afresh and leaves it BLIND, or CONDENSING with its wet flag set, with the state
changes of both steps; DISABLE ZONE of an enabled zone makes it DORMANT with its window, trend and deadlines gone; CLEAR WINDOW
of an enabled zone empties the window and evaluates it; each is DONE without effect on a zone in the other case, and RANGE
refuses a zone above 23 (R87, R88, R104, R124, R125, R128). -/
def Obligations.ZonesAreEnabledDisabledAndCleared : Prop :=
  ∀ s u : State, s.hears u →
    (∀ n : Byte, 24 ≤ n.toNat →
      exec (.enableZone [n]) s = answered u 9 .range [] ∧ exec (.disableZone [n]) s = answered u 10 .range [] ∧
      exec (.clearWindow [n]) s = answered u 13 .range []) ∧
    ∀ z : Fin 24,
      let old := u.zone z
      let unseen : Readings := { m := none, d := none, s := u.surfaceMin z }
      let occupied := old.slots.toList.countP fun k => k != .empty
      (old.enabled = true →
        exec (.enableZone (b8 z)) s = answered u 9 .done (b8 z ++ b8 old.state.code)) ∧
      (old.enabled = false → old.state = .dormant → old.wet = false →
        exec (.enableZone (b8 z)) s =
          answered
            (u.applyDecision z
              { zone := reawakened u.counter old
                changes := [{ fromState := .dormant, toState := .blind, cause := .enable, readings := unseen }] })
            9 .done (b8 z ++ b8 1)) ∧
      (old.enabled = false → old.state = .dormant → old.wet = true →
        exec (.enableZone (b8 z)) s =
          answered
            (u.applyDecision z
              { zone := reawakened u.counter old
                changes :=
                  [{ fromState := .dormant, toState := .blind, cause := .enable, readings := unseen },
                    { fromState := .blind, toState := .condensing, cause := .wet, readings := unseen }] })
            9 .done (b8 z ++ b8 5)) ∧
      (old.enabled = false →
        exec (.disableZone (b8 z)) s = answered u 10 .done (b8 z ++ b8 old.state.code)) ∧
      (old.enabled = true → old.state ≠ .dormant →
        exec (.disableZone (b8 z)) s =
          answered
            (u.applyDecision z
              { zone :=
                  { old with
                    enabled := false, state := .dormant, persistence := none, blind := none, trendStart := none
                    slope := none, trendDeadline := none, slots := noSlots }
                changes := [{ fromState := old.state, toState := .dormant, cause := .disable, readings := unseen }] })
            10 .done (b8 z ++ b8 0)) ∧
      (old.enabled = true →
        exec (.clearWindow (b8 z)) s =
          answered (State.evaluate (u.setZone z { old with slots := noSlots }) z) 13 .done
            (b8 z ++ b8 old.top ++ b8 occupied)) ∧
      (old.enabled = false →
        exec (.clearWindow (b8 z)) s = answered u 13 .done (b8 z ++ b8 old.top ++ b8 occupied))

/-! ## Commands: the Psychrometric Unit -/

/-- CURVE BEGIN is refused RANGE exactly outside R56's ranges and otherwise starts an empty load in every staging state; CURVE
POINTS is judged for RANGE, state, index and count in that order, and otherwise appends its values, the buffer becoming FULL with
all n (R56, R57). CURVE COMMIT is refused SEQUENCE unless FULL, and CURVE with the lowest index out of order; otherwise the
staged curve comes into force and the buffer is EMPTY (R58). -/
def Obligations.CurvesAreLoaded : Prop :=
  ∀ s u : State, s.hears u →
    (∀ f : List Byte, f.length = 5 →
      let base := s16 f 0
      let step := u16 f 2
      let n := u8 f 4
      let fits := (-4000 ≤ base ∧ base ≤ 8500) ∧ (50 ≤ step ∧ step ≤ 1000) ∧ (2 ≤ n ∧ n ≤ 32) ∧
        base + ((n : Int) - 1) * step ≤ 8500
      (fits → exec (.curveBegin f) s = answered { u with staging := .filling base step n [] } 14 .done [1, 0]) ∧
      (¬ fits → exec (.curveBegin f) s = answered u 14 .range [])) ∧
    (∀ (i : Byte) (vs : List Nat), 1 ≤ vs.length → vs.length ≤ 16 → (∀ v ∈ vs, v < 65536) →
      let f := i :: vs.flatMap b16
      (31 < i.toNat ∨ 0 ∈ vs → exec (.curvePoints f) s = answered u 15 .range []) ∧
      (i.toNat ≤ 31 → 0 ∉ vs →
        (u.staging.code ≠ 1 → exec (.curvePoints f) s = answered u 15 .sequence []) ∧
        ∀ base step n old, u.staging = .filling base step n old →
          (i.toNat ≠ old.length ∨ n < i.toNat + vs.length →
            exec (.curvePoints f) s = answered u 15 .sequence []) ∧
          (i.toNat = old.length → i.toNat + vs.length < n →
            exec (.curvePoints f) s =
              answered { u with staging := .filling base step n (old ++ vs) } 15 .done (b8 1 ++ b8 (i.toNat + vs.length))) ∧
          (i.toNat = old.length → i.toNat + vs.length = n →
            exec (.curvePoints f) s =
              answered { u with staging := .full base step n (old ++ vs) } 15 .done (b8 2 ++ b8 n)))) ∧
    (u.staging.code ≠ 2 → exec (.curveCommit []) s = answered u 16 .sequence []) ∧
    ∀ base step n vs, u.staging = .full base step n vs →
      (vs.Pairwise (· < ·) →
        exec (.curveCommit []) s =
          answered { u with curve := { base := base, step := step, values := vs }, staging := .empty } 16 .done []) ∧
      (∀ i, 1 ≤ i → i < vs.length → vs.getD i 0 ≤ vs.getD (i - 1) 0 →
        (∀ j, 1 ≤ j → j < i → vs.getD (j - 1) 0 < vs.getD j 0) →
        exec (.curveCommit []) s = answered u 16 .curve (b8 i))

/-- RESTORE CURVE is accepted in every staging state: the built-in curve comes into force, the staging buffer stays as it stands
and the answer is DONE (R59, with the curve of R54). -/
def Obligations.RestoreCurveBringsTheBuiltInCurve : Prop :=
  ∀ s u : State, s.hears u →
    exec (.restoreCurve []) s =
      answered
        { u with
          curve :=
            { base := 0, step := 400
              values := [611, 813, 1071, 1400, 1814, 2333, 2977, 3771, 4745, 5931, 7367, 9096, 11166] } }
        17 .done []

/-- SET ARITHMETIC writes the mode and the four masks, or is refused RANGE for a value that names nothing; each deferred mark is
set by an unmasking with the sticky flag set, cleared by a setting of masked, and else unchanged (R64). CLEAR STICKY clears the
four flags and the four marks (R66). -/
def Obligations.ArithmeticIsSetAndCleared : Prop :=
  ∀ s u : State, s.hears u →
    exec (.clearSticky []) s = answered { u with sticky := 0, deferred := 0 } 21 .done [] ∧
    (∀ f : List Byte, f.length = 5 →
      (2 < u8 f 0 ∨ 1 < u8 f 1 ∨ 1 < u8 f 2 ∨ 1 < u8 f 3 ∨ 1 < u8 f 4) →
      exec (.setArithmetic f) s = answered u 19 .range []) ∧
    ∀ (mode : Rounding) (masked : BitVec 4),
      let f := b8 mode.code ++ flag (masked.getLsbD 0) ++ flag (masked.getLsbD 1) ++ flag (masked.getLsbD 2)
        ++ flag (masked.getLsbD 3)
      ∃ marks : BitVec 4,
        exec (.setArithmetic f) s =
          answered { u with arith := { mode := mode, masked := masked }, deferred := marks } 19 .done
            [BitVec.ofNat 8 mode.code, masked.zeroExtend 8, u.sticky.zeroExtend 8, marks.zeroExtend 8] ∧
        ∀ k < 4,
          (masked.getLsbD k = true → marks.getLsbD k = false) ∧
          (masked.getLsbD k = false → u.arith.masked.getLsbD k = true → u.sticky.getLsbD k = true →
            marks.getLsbD k = true) ∧
          (masked.getLsbD k = false → u.arith.masked.getLsbD k = false ∨ u.sticky.getLsbD k = false →
            marks.getLsbD k = u.deferred.getLsbD k)

/-! ## Commands: the Discrete I/O Unit -/

/-- SET OUTPUT: RANGE, or every field is written and an enabling begins a period at once, a disabling ends it with the output
inactive, and otherwise the running period goes on (R145). SET OUTPUT MODE: RANGE, or the mode and manual duty are written for
the next boundary (R146). The end of the active part has a field of its own (notes/assumptions/12.md); the zone set runs from
the most significant byte (notes/assumptions/13.md). -/
def Obligations.OutputSettingsAreWritten : Prop :=
  ∀ s u : State, s.hears u →
    (∀ f : List Byte, f.length = 12 →
      let fits := u8 f 0 < 4 ∧ u8 f 1 ≤ 1 ∧ (50 ≤ u16 f 5 ∧ u16 f 5 ≤ 3000) ∧ (10 ≤ u16 f 7 ∧ u16 f 7 ≤ 6000) ∧
        u16 f 9 ≤ 6000 ∧ u8 f 11 ≤ 1
      (¬ fits → exec (.setOutput f) s = answered u 22 .range []) ∧
      ∀ i : Fin 4, fits → u8 f 0 = i →
        let old := u.output i
        let wrote : Output :=
          { old with
            enabled := decide (u8 f 1 = 1), zones := zoneSet f 2, band := u16 f 5, period := u16 f 7
            fallback := u16 f 9, polarity := if u8 f 11 = 0 then .activeHigh else .activeLow }
        let new : Output :=
          if old.enabled = false ∧ u8 f 1 = 1 then begun u u.counter wrote
          else if old.enabled = true ∧ u8 f 1 = 0 then
            { wrote with
              boundary := none, periodInForce := 0, dutyInForce := 0, basis := .none, w := none, driven := false }
          else wrote
        exec (.setOutput f) s =
          answered (u.setOutput i new) 22 .done
            (f ++ b8 new.mode.code ++ b16 new.manual ++ b16 new.periodInForce ++ b16 new.dutyInForce ++ b24 new.start
              ++ deadlineField new.boundary ++ b8 new.basis.code)) ∧
    ∀ f : List Byte, f.length = 4 →
      let fits := u8 f 0 < 4 ∧ u8 f 1 ≤ 1 ∧ u16 f 2 ≤ 6000
      (¬ fits → exec (.setOutputMode f) s = answered u 23 .range []) ∧
      ∀ i : Fin 4, fits → u8 f 0 = i →
        let old := u.output i
        exec (.setOutputMode f) s =
          answered
            (u.setOutput i { old with mode := if u8 f 1 = 0 then .auto else .manual, manual := u16 f 2 })
            23 .done (f ++ b16 old.dutyInForce ++ b8 old.basis.code)

/-- SET WET INPUT: RANGE, or a changed wet level cancels a qualification and takes the state the pin now gives, with the capture
stamp moved when that changes the taken state; then zone, Q and selection are written, every zone's wet flag says what R137
says, and the enabled zones whose flag changed are evaluated in ascending number (R137, R138). -/
def Obligations.WetInputSettingsAreWritten : Prop :=
  ∀ s u : State, s.hears u → u.WetFlagsTrue →
    ∀ f : List Byte, f.length = 5 →
      let fits := u8 f 0 < 4 ∧ (u8 f 1 < 24 ∨ u8 f 1 = 255) ∧ u8 f 2 ≤ 1 ∧ u8 f 3 ≤ 50 ∧ u8 f 4 ≤ 3
      (¬ fits → exec (.setWetInput f) s = answered u 25 .range []) ∧
      ∀ (i : Fin 4) (zone : Option (Fin 24)) (selection : Selection), fits → u8 f 0 = i →
        (match zone with
          | none => u8 f 1 = 255
          | some z => u8 f 1 = z) →
        selection.code = u8 f 4 →
        let old := u.wetInput i
        let level := decide (u8 f 2 = 1)
        let isWet (x : WetInput) : Bool := x.state == .wet || x.state == .toDry
        let now : WetState := if old.pin = level then .wet else .dry
        let new : WetInput :=
          if level = old.wetLevel then { old with zone := zone, qualify := u8 f 3, selection := selection }
          else
            { old with
              zone := zone, wetLevel := level, qualify := u8 f 3, selection := selection, state := now
              deadline := none, capture := if (now == .wet) = isWet old then old.capture else u.counter }
        let wrote := u.setWetInput i new
        let wet (z : Fin 24) : Bool := wrote.wetInputs.toList.any fun x => x.zone == some z && isWet x
        let changed := (List.finRange 24).filter fun z => wet z != (u.zone z).wet
        let flagged : State := { wrote with zones := Vector.ofFn fun z => { u.zone z with wet := wet z } }
        exec (.setWetInput f) s =
          answered (changed.foldl State.evaluate flagged) 25 .done
            (f ++ b8 new.state.code ++ b24 new.capture ++ deadlineField new.deadline)

/-- SET ALERT: a set that names CLEAR, DORMANT or a value outside the six states is refused RANGE with nothing changed; otherwise
the set is replaced and the line is asserted exactly when an enabled zone stands in a state of it (R150). -/
def Obligations.SetAlertReplacesTheSet : Prop :=
  ∀ s u : State, s.hears u → ∀ set : Byte,
    ((∃ k, set.getLsbD k = true ∧ k ≠ 1 ∧ k ≠ 3 ∧ k ≠ 4 ∧ k ≠ 5) → exec (.setAlert [set]) s = answered u 27 .range []) ∧
    ((∀ k, set.getLsbD k = true → k = 1 ∨ k = 3 ∨ k = 4 ∨ k = 5) →
      ∃ line : Bool,
        (line = true ↔ ∃ z, (u.zone z).enabled = true ∧ set.getLsbD (u.zone z).state.code = true) ∧
        exec (.setAlert [set]) s =
          answered { u with alertSet := set, alert := line } 27 .done ([set] ++ [if line = true then 1 else 0]))

/-! ## Commands: notices and restarts -/

/-- The notice read answers its form and the seven pending sets; READ NOTICES makes each armed set equal to the pending set,
PEEK NOTICES changes nothing, and a form that names neither is refused RANGE (R182). The sets' bytes run from the most
significant (notes/assumptions/13.md). A posting adds its subject to the pending set of its kind and changes nothing else (R180,
R187). Which row a form other than READ is, is the model's choice (notes/assumptions/14.md). -/
def Obligations.NoticeReadsReportThePendingSets : Prop :=
  ∀ s u : State, s.hears u →
    let sets :=
      [u.noticePending.wet.zeroExtend 8] ++ b24 u.noticePending.condensing ++ b24 u.noticePending.risk
        ++ b24 u.noticePending.blind
        ++ (List.range 16).map (fun i => (u.noticePending.probeLost >>> (8 * (15 - i))).truncate 8)
        ++ [u.noticePending.arith.zeroExtend 8] ++ b16 u.noticePending.line.toNat
    exec (.readNotices [1]) s = answered { u with noticeArmed := u.noticePending } 28 .done ([1] ++ sets) ∧
    exec (.peekNotices [0]) s = answered u 28 .done ([0] ++ sets) ∧
    (∀ form : Byte, 1 < form.toNat → exec (.peekNotices [form]) s = answered u 28 .range []) ∧
    ∀ (v : State) (x : Posting),
      let n := v.noticePending
      v.post x =
        { v with
          noticePending :=
            match x with
            | .wet i => { n with wet := n.wet ||| BitVec.twoPow 4 i }
            | .condensing z => { n with condensing := n.condensing ||| BitVec.twoPow 24 z }
            | .risk z => { n with risk := n.risk ||| BitVec.twoPow 24 z }
            | .blind z => { n with blind := n.blind ||| BitVec.twoPow 24 z }
            | .probeLost a => { n with probeLost := n.probeLost ||| BitVec.twoPow 128 a.toNat }
            | .arith c => { n with arith := n.arith ||| BitVec.twoPow 4 c.code }
            | .line l => { n with line := n.line ||| BitVec.twoPow 15 (l.code - 1) } }

/-- ACKNOWLEDGE NOTICES removes every armed subject from its pending set, kind by kind, and empties the armed sets; subjects
that are not armed stay, and the answer gives the pending sets after it (R183). The sets' bytes run from the most significant
(notes/assumptions/13.md). -/
def Obligations.AcknowledgeRemovesTheArmedSubjects : Prop :=
  ∀ s u : State, s.hears u →
    let p := u.noticePending
    let a := u.noticeArmed
    let left : NoticeSets :=
      { wet := p.wet &&& ~~~a.wet, condensing := p.condensing &&& ~~~a.condensing, risk := p.risk &&& ~~~a.risk
        blind := p.blind &&& ~~~a.blind, probeLost := p.probeLost &&& ~~~a.probeLost, arith := p.arith &&& ~~~a.arith
        line := p.line &&& ~~~a.line }
    exec (.acknowledgeNotices []) s =
      answered
        { u with
          noticePending := left
          noticeArmed := { wet := 0, condensing := 0, risk := 0, blind := 0, probeLost := 0, arith := 0, line := 0 } }
        29 .done left.field

/-- RESTART EVALUATION: reports, sticky flags and marks go; every probe is UNSEEN with a fresh deadline; every enabled zone is
set up afresh and ends BLIND, or CONDENSING with its wet flag set; the verdict queue holds one entry for each enabled zone whose
state changed, in ascending number, from the state it held; BLIND and CONDENSING are posted for the zones made so; the ALERT
line follows, each enabled output begins a period, and everything else stays (R45, R130, R171 to R173). Any scope but the two is
refused RANGE. The row of a scope that names neither is the model's choice (notes/assumptions/14.md), and a period's active part
has a field of its own (notes/assumptions/12.md). -/
def Obligations.RestartEvaluationForgetsConclusions : Prop :=
  ∀ s u : State, s.hears u →
    (∀ scope : Byte, scope.toNat ≠ 1 → scope.toNat ≠ 2 → exec (.restartEvaluation [scope]) s = answered u 2 .range []) ∧
    ∃ v, exec (.restartEvaluation [1]) s = answered v 2 .done ([1] ++ b24 u.counter) ∧
      v =
        { u with
          verdicts := v.verdicts, noticePending := v.noticePending, noticeArmed := NoticeSets.none, sticky := 0
          deferred := 0, probes := u.probes.map fun e => freshEntry e.load u.counter, zones := v.zones
          outputs := v.outputs, alert := v.alertNow } ∧
      (∀ z, v.zone z = if (u.zone z).enabled = true then reawakened u.counter (u.zone z) else u.zone z) ∧
      v.verdicts =
        ((List.finRange 24).filter fun z => (u.zone z).enabled && ((u.zone z).wet || (u.zone z).state != .blind)).map
          (fun z =>
            { zone := z, fromState := (u.zone z).state, toState := if (u.zone z).wet = true then .condensing else .blind
              cause := if (u.zone z).wet = true then .wet else .enable, readings := { m := none, d := none, s := none }
              stamp := u.counter }) ∧
      v.noticePending =
        { NoticeSets.none with
          condensing := BitVec.ofFnLE fun z : Fin 24 => (u.zone z).enabled && (u.zone z).wet
          blind := BitVec.ofFnLE fun z : Fin 24 => (u.zone z).enabled && (u.zone z).state != .blind } ∧
      ∀ i, v.output i = if (u.output i).enabled = true then begun v u.counter (u.output i) else u.output i

/-- RESTART FULL: the queues, tables, settings and records take their power-on values with the counter and own address kept; a
field frame being received is dropped into HUNT and a held one is acknowledged and dropped; the transmitters go on; the answer
is DONE with the scope and the counter (R20, R163, R171, R174). An acknowledge that a transmitter is owed stays owed
(notes/assumptions/16.md); the end of an active part has a field of its own (notes/assumptions/12.md). -/
def Obligations.RestartFullReturnsToPowerOn : Prop :=
  ∀ s u : State, s.hears u →
    exec (.restartFull [2]) s =
      answered
        { State.reset with
          pending := u.pending, resetLow := u.resetLow, counter := u.counter, ownAddress := u.ownAddress
          fieldTx := u.fieldTx, stationTx := u.stationTx, stationRx := u.stationRx
          fieldAsm :=
            match u.fieldAsm with
            | .idle => .idle
            | .receiving _ => .hunt
            | .hold _ => .idle
            | .hunt => .hunt
          fieldRx :=
            if u.fieldAsm.holding = true then { strobe := u.fieldRx.strobe, ack := u.fieldRx.strobe } else u.fieldRx
          wetInputs := u.wetInputs.map fun r =>
            { pin := r.pin, zone := none, wetLevel := true, qualify := 10, selection := .both
              state := if r.pin = true then .wet else .dry, deadline := none, capture := u.counter }
          outputs := Vector.replicate 4 { State.reset.output 0 with start := u.counter } }
        2 .done ([2] ++ b24 u.counter)

/-! ## The arithmetic -/

/-- A quotient is rounded once: down, up, or to the nearer with ties to the even neighbour (R63). -/
def Obligations.QuotientsAreRoundedOnce : Prop :=
  ∀ a b : Nat, 0 < b →
    (let q := roundQuotient .down a b; q * b ≤ a ∧ a < (q + 1) * b) ∧
    (let q := roundQuotient .up a b; a ≤ q * b ∧ q * b < a + b) ∧
    (let q := roundQuotient .nearest a b
     2 * (q * b) ≤ 2 * a + b ∧ 2 * a ≤ 2 * (q * b) + b ∧
      (2 * (q * b) = 2 * a + b ∨ 2 * a = 2 * (q * b) + b → q % 2 = 0))

/-- Stage 4 interpolates on the largest knot index in 0 … n−2 at or below T, gives the knot's own value at a knot and the last
value at the top knot, and stays between es_0 and es_(n−1) (R71). Stage 5 gives e = round(es × RH / 10000) in 0 … es, es itself
at RH 10000 and 0 at RH 0, which at stage 6 is LOW_VAPOUR since es_0 is at least 1 (R72). Stage 6 inverts an e of at least es_0 on
the largest index j in 0 … n−2 with es_j at or below e (R73). -/
def Obligations.PressuresAreInterpolated : Prop :=
  ∀ (mode : Rounding) (c : Curve), c.Lawful →
    (∀ t : Int, c.base ≤ t → t ≤ c.top →
      (∃ i, i + 2 ≤ c.n ∧ c.knot i ≤ t ∧ (∀ j, j + 2 ≤ c.n → c.knot j ≤ t → j ≤ i) ∧
        saturationAt mode c t =
          c.es i + roundQuotient mode ((c.es (i + 1) - c.es i) * (t - c.knot i).toNat) c.step) ∧
      (t = c.top → saturationAt mode c t = c.es (c.n - 1)) ∧
      (∀ i, i + 2 ≤ c.n → t = c.knot i → saturationAt mode c t = c.es i) ∧
      c.es 0 ≤ saturationAt mode c t ∧ saturationAt mode c t ≤ c.es (c.n - 1)) ∧
    (∀ e : Nat, c.es 0 ≤ e → e ≤ c.es (c.n - 1) →
      (∃ j, j + 2 ≤ c.n ∧ c.es j ≤ e ∧ (∀ k, k + 2 ≤ c.n → c.es k ≤ e → k ≤ j) ∧
        invertCurve mode c e = c.knot j + roundQuotient mode (c.step * (e - c.es j)) (c.es (j + 1) - c.es j) ∧
        c.knot j ≤ invertCurve mode c e ∧ invertCurve mode c e ≤ c.knot (j + 1)) ∧
      (e = c.es (c.n - 1) → invertCurve mode c e = c.top) ∧
      ∀ j, j + 2 ≤ c.n → e = c.es j → invertCurve mode c e = c.knot j) ∧
    ∀ (es : Nat) (rh : Int), 0 ≤ rh → rh ≤ 10000 →
      vapourPressure mode es rh = roundQuotient mode (es * rh.toNat) 10000 ∧ vapourPressure mode es rh ≤ es ∧
      vapourPressure mode es 10000 = es ∧ vapourPressure mode es 0 = 0 ∧
      ∀ (a : Arithmetic) (t : Int) (v : Conversion),
        (dewStage a c t (vapourPressure mode es 0) v).sticky.getLsbD 3 = true

/-- The stages of an air conversion in order: calibration and its limits (R68), the span with OVERRANGE_T (R69), the humidity with
SATURATED and NEGATIVE_RH (R70), the pressures of R71 and R72, the inversion with LOW_VAPOUR (R73) and the ceiling (R74). Each
condition met sets its sticky flag; an unmasked one stops the conversion with its ARITH subject posted and the later stages not
run (R66, R75); the deferred marks are posted whatever happens (R67). So a dew point lies within the span of the curve and never
above the temperature stage 2 leaves. -/
def Obligations.DewPointsStayInTheSpan : Prop :=
  ∀ (a : Arithmetic) (c : Curve) (sticky deferred : Conditions) (p : ProbeLoad) (codeA codeB : Nat), c.Lawful →
    let v := convertAir a c sticky deferred p codeA codeB
    let calibrated (low high trim : Int) (code : Nat) : Int :=
      low + roundQuotient a.mode ((high - low).toNat * code) 4095 + trim
    let t1 := max (-4000) (min 8500 (calibrated p.aLow p.aHigh p.aTrim codeA))
    let h1 := max (-1000) (min 11000 (calibrated p.bLow p.bHigh p.bTrim codeB))
    let masked (k : Condition) := a.masked.getLsbD k.code = true
    let stopped (k : Condition) (flags : Conditions) : Conversion :=
      { sticky := flags ||| k.bit, posted := deferred ||| k.bit, dew := none }
    let outside := t1 < c.base ∨ c.top < t1
    let t2 := max c.base (min c.top t1)
    let flags2 := if outside then sticky ||| Condition.overrangeT.bit else sticky
    let flags3 :=
      if 10000 < h1 then flags2 ||| Condition.saturated.bit
      else if h1 < 0 then flags2 ||| Condition.negativeRh.bit else flags2
    let e := vapourPressure a.mode (saturationAt a.mode c t2) (max 0 (min 10000 h1))
    (outside → ¬ masked .overrangeT → v = stopped .overrangeT sticky) ∧
    ((outside → masked .overrangeT) →
      (10000 < h1 → ¬ masked .saturated → v = stopped .saturated flags2) ∧
      (h1 < 0 → ¬ masked .negativeRh → v = stopped .negativeRh flags2) ∧
      ((10000 < h1 → masked .saturated) → (h1 < 0 → masked .negativeRh) →
        (e < c.es 0 → ¬ masked .lowVapour → v = stopped .lowVapour flags3) ∧
        (e < c.es 0 → masked .lowVapour →
          v = { sticky := flags3 ||| Condition.lowVapour.bit, posted := deferred, dew := some (min c.base t2) }) ∧
        (c.es 0 ≤ e → v = { sticky := flags3, posted := deferred, dew := some (min (invertCurve a.mode c e) t2) }))) ∧
    (∀ d, v.dew = some d →
      c.base ≤ d ∧ d ≤ c.top ∧ d ≤ t2 ∧ v.posted = deferred) ∧
    (v.dew = none →
      ∃ k : Condition, a.masked.getLsbD k.code = false ∧ v.sticky.getLsbD k.code = true ∧ v.posted = deferred ||| k.bit) ∧
    v.sticky &&& sticky = sticky

/-! ## The risk decision -/

/-- The margin is S less D, saturated, and UNKNOWN with either; its outcome; and the projected margin: m itself unless the slope
is positive and L above 0, then m less slope × L saturated below, never above m (R99, R100, R105). S is the smallest temperature
that a LIVE SURFACE or WATER entry of the zone gives, D the largest dew point of a VALID slot, and either is UNKNOWN when there is
none (R32, R84, R98). -/
def Obligations.MarginsAreProjected : Prop :=
  (∀ (e : ProbeEntry) (x : Int),
    e.contribution = some x ↔ e.load.kind ≠ .air ∧ e.state = .live ∧ e.lastValue = .value x) ∧
  (∀ (s : State) (z : Fin 24),
    let gives (e : ProbeEntry) (x : Int) : Prop := e ∈ s.probes ∧ e.load.zone = z ∧ e.contribution = some x
    (s.surfaceMin z = none ↔ ∀ e x, ¬ gives e x) ∧
    ∀ x, s.surfaceMin z = some x ↔ (∃ e, gives e x) ∧ ∀ e y, gives e y → x ≤ y) ∧
  (∀ z : Zone,
    let holds (d : Int) : Prop := ∃ k stamp expiry, z.slot k = .valid stamp d expiry
    (z.dew = none ↔ ∀ d, ¬ holds d) ∧ ∀ d, z.dew = some d ↔ holds d ∧ ∀ e, holds e → e ≤ d) ∧
  (∀ x y : Option Int, x = none ∨ y = none → marginOf x y = none) ∧
  (∀ a d : Int, -32767 ≤ a - d → a - d ≤ 32767 → marginOf (some a) (some d) = some (a - d)) ∧
  (∀ a d : Int, 32767 < a - d → marginOf (some a) (some d) = some 32767) ∧
  (∀ a d : Int, a - d < -32767 → marginOf (some a) (some d) = some (-32767)) ∧
  (outcomeOf none = .unordered ∧ outcomeOf (some 0) = .equal ∧
    ∀ m : Int, (0 < m → outcomeOf (some m) = .above) ∧ (m < 0 → outcomeOf (some m) = .below)) ∧
  ∀ (z : Zone) (x : Option Int),
    (marginOf x z.dew = none → z.projected x = none) ∧
    ∀ m, marginOf x z.dew = some m →
      (z.slope = none ∨ z.lookahead = 0 ∨ (∃ v, z.slope = some v ∧ v ≤ 0) → z.projected x = some m) ∧
      (∀ v, z.slope = some v → 0 < v → 0 < z.lookahead →
        (-32767 ≤ m - v * z.lookahead → z.projected x = some (m - v * z.lookahead)) ∧
        (m - v * z.lookahead < -32767 → z.projected x = some (-32767))) ∧
      ∃ p, z.projected x = some p ∧ p ≤ m ∧ -32767 ≤ p ∧ m ≤ 32767

/-- The candidate level: CONDENSING for m ≤ 0, else RISK for m below K, else WATCH for m below W or p below K, else CLEAR; the
projection alone reaches WATCH and no further (R118). -/
def Obligations.CandidateFollowsTheThresholds : Prop :=
  ∀ (t : Thresholds) (m p : Int),
    (m ≤ 0 → candidateOf t m p = .condensing) ∧
    (0 < m → m < t.k → candidateOf t m p = .risk) ∧
    (0 < m → t.k ≤ m → m < t.w ∨ p < t.k → candidateOf t m p = .watch) ∧
    (0 < m → t.k ≤ m → t.w ≤ m → t.k ≤ p → candidateOf t m p = .clear) ∧
    (∀ q : Int, candidateOf t m p = .risk ∨ candidateOf t m p = .condensing → candidateOf t m q = candidateOf t m p)

/-- An evaluation of an enabled zone, by cases on the wet flag and the margin: the take-up, the state it ends in, both deadlines
and the chain of state changes with their causes and values, a BLIND zone passing CLEAR first and every other change one level;
window, trend and configuration stay (R106, R114 to R121, R129). In the part an evaluation of a DORMANT zone is not made, and that
of an enabled zone writes the record it decides on: each state change goes to the verdict queue in its order, entering CONDENSING,
RISK or BLIND posts the notice of that name, and the ALERT line is re-evaluated when there is a change and stands otherwise;
nothing else moves (R106, R126, R127, R129, R149). -/
def Obligations.EvaluationDecidesByTheRiskSteps : Prop :=
  (∀ (z : Zone) (now : Stamp) (x : Option Int), z.enabled = true → z.state ≠ .dormant →
    let d := z.untouched.evaluate now x
    let t := z.staged.getD z.active
    let kept : Option Persistence :=
      if t.p = z.active.p then z.persistence
      else z.persistence.map fun q => { q with arming := setDeadline now q.stamp t.p }
    let r : Readings := { m := marginOf x z.dew, d := z.dew, s := x }
    let moved (next : ZoneState) (pers : Option Persistence) (blind : Deadline) : Zone :=
      { z with active := t, staged := none, state := next, persistence := pers, blind := blind }
    (z.wet = true →
      d.zone = moved .condensing none none ∧
      d.changes =
        if z.state = .condensing then []
        else [{ fromState := z.state, toState := .condensing, cause := .wet, readings := r }]) ∧
    (z.wet = false → r.m = none →
      d.zone =
        moved z.state none
          (if z.state = .blind then z.blind
            else
              match z.blind with
              | none => some (setDeadline now now z.grace)
              | some a => some a) ∧
      d.changes = []) ∧
    (∀ m p, z.wet = false → r.m = some m → z.projected x = some p →
      let c := candidateOf t m p
      let f := if z.state = .blind then .clear else z.state
      let next := settledLevel t f c m p
      d.zone = moved next (settledPersistence now t f c kept) none ∧
      d.changes.map Change.toState = (if z.state = .blind then [.clear] else []) ++ levelPath f next ∧
      d.changes.map Change.fromState = (z.state :: d.changes.map Change.toState).dropLast ∧
      (z.state :: d.changes.map Change.toState).getLast? = some next ∧
      ∀ e ∈ d.changes, e.readings = r ∧ e.cause = if e.fromState = .blind then .restore else .margin)) ∧
  (∀ (s : State) (k : Fin 24),
    ((s.zone k).enabled = false → s.evaluate k = s) ∧
    ((s.zone k).enabled = true →
      s.evaluate k = s.applyDecision k ((s.zone k).untouched.evaluate s.counter (s.surfaceMin k)))) ∧
  ∀ (s : State) (k : Fin 24) (d : Decision),
    let t := s.applyDecision k d
    let enters (next : ZoneState) : Bool := d.changes.any fun c => c.toState == next
    let subject (next : ZoneState) : BitVec 24 := if enters next = true then BitVec.twoPow 24 k else 0
    t =
      { s with
        zones := t.zones, alert := t.alert
        verdicts := d.changes.foldl (fun q c => queueVerdict k s.counter q c) s.verdicts
        noticePending :=
          { s.noticePending with
            condensing := s.noticePending.condensing ||| subject .condensing
            risk := s.noticePending.risk ||| subject .risk
            blind := s.noticePending.blind ||| subject .blind } } ∧
    t.zone k = d.zone ∧ (∀ y, y ≠ k → t.zone y = s.zone y) ∧
    (d.changes = [] → t.alert = s.alert) ∧
    (d.changes ≠ [] →
      (t.alert = true ↔ ∃ y, (t.zone y).enabled = true ∧ t.alertSet.getLsbD (t.zone y).state.code = true))

/-- A state change of a zone without an entry makes one at the tail; of a zone with an entry it updates that entry in its place,
keeping its from-state, and touches no other (R156). -/
def Obligations.VerdictsCoalesce : Prop :=
  ∀ (z : Fin 24) (now : Stamp) (c : Change) (q : List Verdict),
    ((∀ v ∈ q, v.zone ≠ z) →
      queueVerdict z now q c =
        q ++ [{ zone := z, fromState := c.fromState, toState := c.toState, cause := c.cause, readings := c.readings
                stamp := now }]) ∧
    ∀ before v after, q = before ++ v :: after → v.zone = z → (∀ w ∈ before ++ after, w.zone ≠ z) →
      queueVerdict z now q c =
        before
          ++ { zone := z, fromState := v.fromState, toState := c.toState, cause := c.cause, readings := c.readings
               stamp := now } :: after

/-! ## Laws that every step keeps -/

/-- No queue ever passes its places, a held field frame means a full intake queue with its symbol unacknowledged, the verdict run
stays within 4, and no zone has two verdict entries (R11, R13, R15, R155, R156, R158). -/
def Obligations.QueuesStayWithinTheirPlaces : Prop :=
  ∀ s t : State, s.QueuesWithinPlaces ∧ s.OneVerdictPerZone → step s = .next t →
    t.QueuesWithinPlaces ∧ t.OneVerdictPerZone

/-- The Probe Table stays at most 96 lawful entries in ascending address, PROBE_LOST names entries only, and every armed subject
is pending (R32 to R34, R42, R179). -/
def Obligations.ProbeTableAndNoticesStayLawful : Prop :=
  ∀ s t : State, s.ProbeTableLawful ∧ s.ArmedArePending → step s = .next t → t.ProbeTableLawful ∧ t.ArmedArePending

/-- The curve in force and the staging buffer stay within R53 and R55, and a deferred mark always belongs to an unmasked
condition whose sticky flag is set (R64). -/
def Obligations.ArithmeticStaysLawful : Prop := ∀ s t : State, s.ArithmeticLawful → step s = .next t → t.ArithmeticLawful

/-- Every zone keeps the laws of its record: DORMANT exactly while not enabled, the deadlines where the rules arm them, wet
enabled zones in CONDENSING, K below W (R101, R104, R111, R112, R115, R116, R120, R125). -/
def Obligations.ZonesStayLawful : Prop := ∀ s t : State, s.ZonesLawful → step s = .next t → t.ZonesLawful

/-- The wet flags say what R137 says with qualifications armed exactly in TO_WET and TO_DRY; every demand output keeps its duty
within its period and shows no period while disabled; and an enabled one is never past its boundary, which lies one period after
the period's start, nor inactive before its duty is over (R28, R134, R137, R141, R142, R144). That no boundary is passed rests
on the TICK that takes it (notes/assumptions/5.md), and the active part has a field of its own (notes/assumptions/12.md). -/
def Obligations.DiscreteUnitsStayLawful : Prop :=
  ∀ s t : State, s.WetFlagsTrue ∧ s.OutputsLawful → step s = .next t → t.WetFlagsTrue ∧ t.OutputsLawful

/-- The ALERT line is asserted exactly while an enabled zone is in a state of the alert set, which names only BLIND, WATCH, RISK
and CONDENSING, and a zone is DORMANT exactly while not enabled. The premise on the zones, itself a law that every step keeps,
shuts out a DORMANT zone with a deadline still armed (R111, R125, R149, R150). -/
def Obligations.AlertLineStaysTrue : Prop := ∀ s t : State, s.AlertTrue → s.ZonesLawful → step s = .next t → t.AlertTrue

/-- No transmitter idles with a frame waiting, a held station frame always waits for its own obstacle, a strobe is high only on
the symbol of the frame in progress, a symbol waits only for a low acknowledge, an acknowledge is owed only while it is low, and
a part held in reset keeps its lines at their reset levels (R16 to R18, R154, R158, R177). The owed acknowledge, that it is owed
only while the line is low and that a held part owes none are the model's reading (notes/assumptions/16.md), and what a held
part holds is too (notes/assumptions/11.md). -/
def Obligations.LinesStayLawful : Prop :=
  ∀ s t : State, s.NothingWaitsIdle ∧ s.LinesLawful → step s = .next t → t.NothingWaitsIdle ∧ t.LinesLawful

/-- The state after reset meets every law above. -/
def Obligations.ResetMeetsEveryLaw : Prop :=
  State.reset.QueuesWithinPlaces ∧ State.reset.OneVerdictPerZone ∧ State.reset.ProbeTableLawful ∧
    State.reset.ArmedArePending ∧ State.reset.ArithmeticLawful ∧ State.reset.ZonesLawful ∧ State.reset.WetFlagsTrue ∧
    State.reset.OutputsLawful ∧ State.reset.DeadlinesOnTime ∧ State.reset.AlertTrue ∧ State.reset.NothingWaitsIdle ∧
    State.reset.LinesLawful

/-! ## Payloads and rows -/

/-- The payload of every well-formed COMMAND row reads back as that row, and every payload that fits a frame is the payload of
the well-formed row it reads as (R167, R188; which row a RESTART or notice-read payload names is notes/assumptions/14.md). -/
def Obligations.PayloadsAndRowsAgree : Prop :=
  (∀ (i : Instr) (p : List Byte), WellFormed i = true → i.payload = some p → Instr.ofPayload p = i ∧ p.length ≤ 60) ∧
  ∀ p : List Byte, p.length ≤ 60 → (Instr.ofPayload p).payload = some p ∧ WellFormed (Instr.ofPayload p) = true

end Slice0Statements
end

