-- ==== Sys2Proof/Laws/State.lean ====
section
/-! SUPPORT. The fields an update of State leaves alone, one lemma per field per update, and the lookup laws of the records. -/

namespace Sys2Proof.Machine

open Sys2Proof

/-! ## A zone record is written -/

@[simp] theorem State.setZone_pending (s : State) (z : Fin 24) (r : Zone) : (s.setZone z r).pending = s.pending := rfl
@[simp] theorem State.setZone_resetLow (s : State) (z : Fin 24) (r : Zone) : (s.setZone z r).resetLow = s.resetLow := rfl
@[simp] theorem State.setZone_counter (s : State) (z : Fin 24) (r : Zone) : (s.setZone z r).counter = s.counter := rfl
@[simp] theorem State.setZone_ownAddress (s : State) (z : Fin 24) (r : Zone) : (s.setZone z r).ownAddress = s.ownAddress := rfl
@[simp] theorem State.setZone_fieldRx (s : State) (z : Fin 24) (r : Zone) : (s.setZone z r).fieldRx = s.fieldRx := rfl
@[simp] theorem State.setZone_fieldAsm (s : State) (z : Fin 24) (r : Zone) : (s.setZone z r).fieldAsm = s.fieldAsm := rfl
@[simp] theorem State.setZone_intake (s : State) (z : Fin 24) (r : Zone) : (s.setZone z r).intake = s.intake := rfl
@[simp] theorem State.setZone_fieldOut (s : State) (z : Fin 24) (r : Zone) : (s.setZone z r).fieldOut = s.fieldOut := rfl
@[simp] theorem State.setZone_fieldTx (s : State) (z : Fin 24) (r : Zone) : (s.setZone z r).fieldTx = s.fieldTx := rfl
@[simp] theorem State.setZone_stationRx (s : State) (z : Fin 24) (r : Zone) : (s.setZone z r).stationRx = s.stationRx := rfl
@[simp] theorem State.setZone_stationAsm (s : State) (z : Fin 24) (r : Zone) : (s.setZone z r).stationAsm = s.stationAsm := rfl
@[simp] theorem State.setZone_forward (s : State) (z : Fin 24) (r : Zone) : (s.setZone z r).forward = s.forward := rfl
@[simp] theorem State.setZone_verdicts (s : State) (z : Fin 24) (r : Zone) : (s.setZone z r).verdicts = s.verdicts := rfl
@[simp] theorem State.setZone_response (s : State) (z : Fin 24) (r : Zone) : (s.setZone z r).response = s.response := rfl
@[simp] theorem State.setZone_stationTx (s : State) (z : Fin 24) (r : Zone) : (s.setZone z r).stationTx = s.stationTx := rfl
@[simp] theorem State.setZone_verdictRun (s : State) (z : Fin 24) (r : Zone) : (s.setZone z r).verdictRun = s.verdictRun := rfl
@[simp] theorem State.setZone_probes (s : State) (z : Fin 24) (r : Zone) : (s.setZone z r).probes = s.probes := rfl
@[simp] theorem State.setZone_curve (s : State) (z : Fin 24) (r : Zone) : (s.setZone z r).curve = s.curve := rfl
@[simp] theorem State.setZone_staging (s : State) (z : Fin 24) (r : Zone) : (s.setZone z r).staging = s.staging := rfl
@[simp] theorem State.setZone_arith (s : State) (z : Fin 24) (r : Zone) : (s.setZone z r).arith = s.arith := rfl
@[simp] theorem State.setZone_sticky (s : State) (z : Fin 24) (r : Zone) : (s.setZone z r).sticky = s.sticky := rfl
@[simp] theorem State.setZone_deferred (s : State) (z : Fin 24) (r : Zone) : (s.setZone z r).deferred = s.deferred := rfl
@[simp] theorem State.setZone_wetInputs (s : State) (z : Fin 24) (r : Zone) : (s.setZone z r).wetInputs = s.wetInputs := rfl
@[simp] theorem State.setZone_outputs (s : State) (z : Fin 24) (r : Zone) : (s.setZone z r).outputs = s.outputs := rfl
@[simp] theorem State.setZone_alertSet (s : State) (z : Fin 24) (r : Zone) : (s.setZone z r).alertSet = s.alertSet := rfl
@[simp] theorem State.setZone_alert (s : State) (z : Fin 24) (r : Zone) : (s.setZone z r).alert = s.alert := rfl
@[simp] theorem State.setZone_noticePending (s : State) (z : Fin 24) (r : Zone) : (s.setZone z r).noticePending = s.noticePending := rfl
@[simp] theorem State.setZone_noticeArmed (s : State) (z : Fin 24) (r : Zone) : (s.setZone z r).noticeArmed = s.noticeArmed := rfl

/-! ## A wet-input record is written -/

@[simp] theorem State.setWetInput_pending (s : State) (i : Fin 4) (r : WetInput) : (s.setWetInput i r).pending = s.pending := rfl
@[simp] theorem State.setWetInput_resetLow (s : State) (i : Fin 4) (r : WetInput) : (s.setWetInput i r).resetLow = s.resetLow := rfl
@[simp] theorem State.setWetInput_counter (s : State) (i : Fin 4) (r : WetInput) : (s.setWetInput i r).counter = s.counter := rfl
@[simp] theorem State.setWetInput_ownAddress (s : State) (i : Fin 4) (r : WetInput) : (s.setWetInput i r).ownAddress = s.ownAddress := rfl
@[simp] theorem State.setWetInput_fieldRx (s : State) (i : Fin 4) (r : WetInput) : (s.setWetInput i r).fieldRx = s.fieldRx := rfl
@[simp] theorem State.setWetInput_fieldAsm (s : State) (i : Fin 4) (r : WetInput) : (s.setWetInput i r).fieldAsm = s.fieldAsm := rfl
@[simp] theorem State.setWetInput_intake (s : State) (i : Fin 4) (r : WetInput) : (s.setWetInput i r).intake = s.intake := rfl
@[simp] theorem State.setWetInput_fieldOut (s : State) (i : Fin 4) (r : WetInput) : (s.setWetInput i r).fieldOut = s.fieldOut := rfl
@[simp] theorem State.setWetInput_fieldTx (s : State) (i : Fin 4) (r : WetInput) : (s.setWetInput i r).fieldTx = s.fieldTx := rfl
@[simp] theorem State.setWetInput_stationRx (s : State) (i : Fin 4) (r : WetInput) : (s.setWetInput i r).stationRx = s.stationRx := rfl
@[simp] theorem State.setWetInput_stationAsm (s : State) (i : Fin 4) (r : WetInput) : (s.setWetInput i r).stationAsm = s.stationAsm := rfl
@[simp] theorem State.setWetInput_forward (s : State) (i : Fin 4) (r : WetInput) : (s.setWetInput i r).forward = s.forward := rfl
@[simp] theorem State.setWetInput_verdicts (s : State) (i : Fin 4) (r : WetInput) : (s.setWetInput i r).verdicts = s.verdicts := rfl
@[simp] theorem State.setWetInput_response (s : State) (i : Fin 4) (r : WetInput) : (s.setWetInput i r).response = s.response := rfl
@[simp] theorem State.setWetInput_stationTx (s : State) (i : Fin 4) (r : WetInput) : (s.setWetInput i r).stationTx = s.stationTx := rfl
@[simp] theorem State.setWetInput_verdictRun (s : State) (i : Fin 4) (r : WetInput) : (s.setWetInput i r).verdictRun = s.verdictRun := rfl
@[simp] theorem State.setWetInput_probes (s : State) (i : Fin 4) (r : WetInput) : (s.setWetInput i r).probes = s.probes := rfl
@[simp] theorem State.setWetInput_curve (s : State) (i : Fin 4) (r : WetInput) : (s.setWetInput i r).curve = s.curve := rfl
@[simp] theorem State.setWetInput_staging (s : State) (i : Fin 4) (r : WetInput) : (s.setWetInput i r).staging = s.staging := rfl
@[simp] theorem State.setWetInput_arith (s : State) (i : Fin 4) (r : WetInput) : (s.setWetInput i r).arith = s.arith := rfl
@[simp] theorem State.setWetInput_sticky (s : State) (i : Fin 4) (r : WetInput) : (s.setWetInput i r).sticky = s.sticky := rfl
@[simp] theorem State.setWetInput_deferred (s : State) (i : Fin 4) (r : WetInput) : (s.setWetInput i r).deferred = s.deferred := rfl
@[simp] theorem State.setWetInput_zones (s : State) (i : Fin 4) (r : WetInput) : (s.setWetInput i r).zones = s.zones := rfl
@[simp] theorem State.setWetInput_outputs (s : State) (i : Fin 4) (r : WetInput) : (s.setWetInput i r).outputs = s.outputs := rfl
@[simp] theorem State.setWetInput_alertSet (s : State) (i : Fin 4) (r : WetInput) : (s.setWetInput i r).alertSet = s.alertSet := rfl
@[simp] theorem State.setWetInput_alert (s : State) (i : Fin 4) (r : WetInput) : (s.setWetInput i r).alert = s.alert := rfl
@[simp] theorem State.setWetInput_noticePending (s : State) (i : Fin 4) (r : WetInput) : (s.setWetInput i r).noticePending = s.noticePending := rfl
@[simp] theorem State.setWetInput_noticeArmed (s : State) (i : Fin 4) (r : WetInput) : (s.setWetInput i r).noticeArmed = s.noticeArmed := rfl

/-! ## A demand-output record is written -/

@[simp] theorem State.setOutput_pending (s : State) (o : Fin 4) (r : Output) : (s.setOutput o r).pending = s.pending := rfl
@[simp] theorem State.setOutput_resetLow (s : State) (o : Fin 4) (r : Output) : (s.setOutput o r).resetLow = s.resetLow := rfl
@[simp] theorem State.setOutput_counter (s : State) (o : Fin 4) (r : Output) : (s.setOutput o r).counter = s.counter := rfl
@[simp] theorem State.setOutput_ownAddress (s : State) (o : Fin 4) (r : Output) : (s.setOutput o r).ownAddress = s.ownAddress := rfl
@[simp] theorem State.setOutput_fieldRx (s : State) (o : Fin 4) (r : Output) : (s.setOutput o r).fieldRx = s.fieldRx := rfl
@[simp] theorem State.setOutput_fieldAsm (s : State) (o : Fin 4) (r : Output) : (s.setOutput o r).fieldAsm = s.fieldAsm := rfl
@[simp] theorem State.setOutput_intake (s : State) (o : Fin 4) (r : Output) : (s.setOutput o r).intake = s.intake := rfl
@[simp] theorem State.setOutput_fieldOut (s : State) (o : Fin 4) (r : Output) : (s.setOutput o r).fieldOut = s.fieldOut := rfl
@[simp] theorem State.setOutput_fieldTx (s : State) (o : Fin 4) (r : Output) : (s.setOutput o r).fieldTx = s.fieldTx := rfl
@[simp] theorem State.setOutput_stationRx (s : State) (o : Fin 4) (r : Output) : (s.setOutput o r).stationRx = s.stationRx := rfl
@[simp] theorem State.setOutput_stationAsm (s : State) (o : Fin 4) (r : Output) : (s.setOutput o r).stationAsm = s.stationAsm := rfl
@[simp] theorem State.setOutput_forward (s : State) (o : Fin 4) (r : Output) : (s.setOutput o r).forward = s.forward := rfl
@[simp] theorem State.setOutput_verdicts (s : State) (o : Fin 4) (r : Output) : (s.setOutput o r).verdicts = s.verdicts := rfl
@[simp] theorem State.setOutput_response (s : State) (o : Fin 4) (r : Output) : (s.setOutput o r).response = s.response := rfl
@[simp] theorem State.setOutput_stationTx (s : State) (o : Fin 4) (r : Output) : (s.setOutput o r).stationTx = s.stationTx := rfl
@[simp] theorem State.setOutput_verdictRun (s : State) (o : Fin 4) (r : Output) : (s.setOutput o r).verdictRun = s.verdictRun := rfl
@[simp] theorem State.setOutput_probes (s : State) (o : Fin 4) (r : Output) : (s.setOutput o r).probes = s.probes := rfl
@[simp] theorem State.setOutput_curve (s : State) (o : Fin 4) (r : Output) : (s.setOutput o r).curve = s.curve := rfl
@[simp] theorem State.setOutput_staging (s : State) (o : Fin 4) (r : Output) : (s.setOutput o r).staging = s.staging := rfl
@[simp] theorem State.setOutput_arith (s : State) (o : Fin 4) (r : Output) : (s.setOutput o r).arith = s.arith := rfl
@[simp] theorem State.setOutput_sticky (s : State) (o : Fin 4) (r : Output) : (s.setOutput o r).sticky = s.sticky := rfl
@[simp] theorem State.setOutput_deferred (s : State) (o : Fin 4) (r : Output) : (s.setOutput o r).deferred = s.deferred := rfl
@[simp] theorem State.setOutput_zones (s : State) (o : Fin 4) (r : Output) : (s.setOutput o r).zones = s.zones := rfl
@[simp] theorem State.setOutput_wetInputs (s : State) (o : Fin 4) (r : Output) : (s.setOutput o r).wetInputs = s.wetInputs := rfl
@[simp] theorem State.setOutput_alertSet (s : State) (o : Fin 4) (r : Output) : (s.setOutput o r).alertSet = s.alertSet := rfl
@[simp] theorem State.setOutput_alert (s : State) (o : Fin 4) (r : Output) : (s.setOutput o r).alert = s.alert := rfl
@[simp] theorem State.setOutput_noticePending (s : State) (o : Fin 4) (r : Output) : (s.setOutput o r).noticePending = s.noticePending := rfl
@[simp] theorem State.setOutput_noticeArmed (s : State) (o : Fin 4) (r : Output) : (s.setOutput o r).noticeArmed = s.noticeArmed := rfl

/-! ## The Probe Table is written -/

@[simp] theorem State.setProbes_pending (s : State) (p : List ProbeEntry) : (s.setProbes p).pending = s.pending := rfl
@[simp] theorem State.setProbes_resetLow (s : State) (p : List ProbeEntry) : (s.setProbes p).resetLow = s.resetLow := rfl
@[simp] theorem State.setProbes_counter (s : State) (p : List ProbeEntry) : (s.setProbes p).counter = s.counter := rfl
@[simp] theorem State.setProbes_ownAddress (s : State) (p : List ProbeEntry) : (s.setProbes p).ownAddress = s.ownAddress := rfl
@[simp] theorem State.setProbes_fieldRx (s : State) (p : List ProbeEntry) : (s.setProbes p).fieldRx = s.fieldRx := rfl
@[simp] theorem State.setProbes_fieldAsm (s : State) (p : List ProbeEntry) : (s.setProbes p).fieldAsm = s.fieldAsm := rfl
@[simp] theorem State.setProbes_intake (s : State) (p : List ProbeEntry) : (s.setProbes p).intake = s.intake := rfl
@[simp] theorem State.setProbes_fieldOut (s : State) (p : List ProbeEntry) : (s.setProbes p).fieldOut = s.fieldOut := rfl
@[simp] theorem State.setProbes_fieldTx (s : State) (p : List ProbeEntry) : (s.setProbes p).fieldTx = s.fieldTx := rfl
@[simp] theorem State.setProbes_stationRx (s : State) (p : List ProbeEntry) : (s.setProbes p).stationRx = s.stationRx := rfl
@[simp] theorem State.setProbes_stationAsm (s : State) (p : List ProbeEntry) : (s.setProbes p).stationAsm = s.stationAsm := rfl
@[simp] theorem State.setProbes_forward (s : State) (p : List ProbeEntry) : (s.setProbes p).forward = s.forward := rfl
@[simp] theorem State.setProbes_verdicts (s : State) (p : List ProbeEntry) : (s.setProbes p).verdicts = s.verdicts := rfl
@[simp] theorem State.setProbes_response (s : State) (p : List ProbeEntry) : (s.setProbes p).response = s.response := rfl
@[simp] theorem State.setProbes_stationTx (s : State) (p : List ProbeEntry) : (s.setProbes p).stationTx = s.stationTx := rfl
@[simp] theorem State.setProbes_verdictRun (s : State) (p : List ProbeEntry) : (s.setProbes p).verdictRun = s.verdictRun := rfl
@[simp] theorem State.setProbes_curve (s : State) (p : List ProbeEntry) : (s.setProbes p).curve = s.curve := rfl
@[simp] theorem State.setProbes_staging (s : State) (p : List ProbeEntry) : (s.setProbes p).staging = s.staging := rfl
@[simp] theorem State.setProbes_arith (s : State) (p : List ProbeEntry) : (s.setProbes p).arith = s.arith := rfl
@[simp] theorem State.setProbes_sticky (s : State) (p : List ProbeEntry) : (s.setProbes p).sticky = s.sticky := rfl
@[simp] theorem State.setProbes_deferred (s : State) (p : List ProbeEntry) : (s.setProbes p).deferred = s.deferred := rfl
@[simp] theorem State.setProbes_zones (s : State) (p : List ProbeEntry) : (s.setProbes p).zones = s.zones := rfl
@[simp] theorem State.setProbes_wetInputs (s : State) (p : List ProbeEntry) : (s.setProbes p).wetInputs = s.wetInputs := rfl
@[simp] theorem State.setProbes_outputs (s : State) (p : List ProbeEntry) : (s.setProbes p).outputs = s.outputs := rfl
@[simp] theorem State.setProbes_alertSet (s : State) (p : List ProbeEntry) : (s.setProbes p).alertSet = s.alertSet := rfl
@[simp] theorem State.setProbes_alert (s : State) (p : List ProbeEntry) : (s.setProbes p).alert = s.alert := rfl
@[simp] theorem State.setProbes_noticePending (s : State) (p : List ProbeEntry) : (s.setProbes p).noticePending = s.noticePending := rfl
@[simp] theorem State.setProbes_noticeArmed (s : State) (p : List ProbeEntry) : (s.setProbes p).noticeArmed = s.noticeArmed := rfl

/-! ## A notice is posted -/

@[simp] theorem State.post_pending (s : State) (p : Posting) : (s.post p).pending = s.pending := rfl
@[simp] theorem State.post_resetLow (s : State) (p : Posting) : (s.post p).resetLow = s.resetLow := rfl
@[simp] theorem State.post_counter (s : State) (p : Posting) : (s.post p).counter = s.counter := rfl
@[simp] theorem State.post_ownAddress (s : State) (p : Posting) : (s.post p).ownAddress = s.ownAddress := rfl
@[simp] theorem State.post_fieldRx (s : State) (p : Posting) : (s.post p).fieldRx = s.fieldRx := rfl
@[simp] theorem State.post_fieldAsm (s : State) (p : Posting) : (s.post p).fieldAsm = s.fieldAsm := rfl
@[simp] theorem State.post_intake (s : State) (p : Posting) : (s.post p).intake = s.intake := rfl
@[simp] theorem State.post_fieldOut (s : State) (p : Posting) : (s.post p).fieldOut = s.fieldOut := rfl
@[simp] theorem State.post_fieldTx (s : State) (p : Posting) : (s.post p).fieldTx = s.fieldTx := rfl
@[simp] theorem State.post_stationRx (s : State) (p : Posting) : (s.post p).stationRx = s.stationRx := rfl
@[simp] theorem State.post_stationAsm (s : State) (p : Posting) : (s.post p).stationAsm = s.stationAsm := rfl
@[simp] theorem State.post_forward (s : State) (p : Posting) : (s.post p).forward = s.forward := rfl
@[simp] theorem State.post_verdicts (s : State) (p : Posting) : (s.post p).verdicts = s.verdicts := rfl
@[simp] theorem State.post_response (s : State) (p : Posting) : (s.post p).response = s.response := rfl
@[simp] theorem State.post_stationTx (s : State) (p : Posting) : (s.post p).stationTx = s.stationTx := rfl
@[simp] theorem State.post_verdictRun (s : State) (p : Posting) : (s.post p).verdictRun = s.verdictRun := rfl
@[simp] theorem State.post_probes (s : State) (p : Posting) : (s.post p).probes = s.probes := rfl
@[simp] theorem State.post_curve (s : State) (p : Posting) : (s.post p).curve = s.curve := rfl
@[simp] theorem State.post_staging (s : State) (p : Posting) : (s.post p).staging = s.staging := rfl
@[simp] theorem State.post_arith (s : State) (p : Posting) : (s.post p).arith = s.arith := rfl
@[simp] theorem State.post_sticky (s : State) (p : Posting) : (s.post p).sticky = s.sticky := rfl
@[simp] theorem State.post_deferred (s : State) (p : Posting) : (s.post p).deferred = s.deferred := rfl
@[simp] theorem State.post_zones (s : State) (p : Posting) : (s.post p).zones = s.zones := rfl
@[simp] theorem State.post_wetInputs (s : State) (p : Posting) : (s.post p).wetInputs = s.wetInputs := rfl
@[simp] theorem State.post_outputs (s : State) (p : Posting) : (s.post p).outputs = s.outputs := rfl
@[simp] theorem State.post_alertSet (s : State) (p : Posting) : (s.post p).alertSet = s.alertSet := rfl
@[simp] theorem State.post_alert (s : State) (p : Posting) : (s.post p).alert = s.alert := rfl
@[simp] theorem State.post_noticeArmed (s : State) (p : Posting) : (s.post p).noticeArmed = s.noticeArmed := rfl

/-! ## A line fault is posted -/

@[simp] theorem State.postLine_pending (s : State) (l : LineSubject) : (s.postLine l).pending = s.pending := rfl
@[simp] theorem State.postLine_resetLow (s : State) (l : LineSubject) : (s.postLine l).resetLow = s.resetLow := rfl
@[simp] theorem State.postLine_counter (s : State) (l : LineSubject) : (s.postLine l).counter = s.counter := rfl
@[simp] theorem State.postLine_ownAddress (s : State) (l : LineSubject) : (s.postLine l).ownAddress = s.ownAddress := rfl
@[simp] theorem State.postLine_fieldRx (s : State) (l : LineSubject) : (s.postLine l).fieldRx = s.fieldRx := rfl
@[simp] theorem State.postLine_fieldAsm (s : State) (l : LineSubject) : (s.postLine l).fieldAsm = s.fieldAsm := rfl
@[simp] theorem State.postLine_intake (s : State) (l : LineSubject) : (s.postLine l).intake = s.intake := rfl
@[simp] theorem State.postLine_fieldOut (s : State) (l : LineSubject) : (s.postLine l).fieldOut = s.fieldOut := rfl
@[simp] theorem State.postLine_fieldTx (s : State) (l : LineSubject) : (s.postLine l).fieldTx = s.fieldTx := rfl
@[simp] theorem State.postLine_stationRx (s : State) (l : LineSubject) : (s.postLine l).stationRx = s.stationRx := rfl
@[simp] theorem State.postLine_stationAsm (s : State) (l : LineSubject) : (s.postLine l).stationAsm = s.stationAsm := rfl
@[simp] theorem State.postLine_forward (s : State) (l : LineSubject) : (s.postLine l).forward = s.forward := rfl
@[simp] theorem State.postLine_verdicts (s : State) (l : LineSubject) : (s.postLine l).verdicts = s.verdicts := rfl
@[simp] theorem State.postLine_response (s : State) (l : LineSubject) : (s.postLine l).response = s.response := rfl
@[simp] theorem State.postLine_stationTx (s : State) (l : LineSubject) : (s.postLine l).stationTx = s.stationTx := rfl
@[simp] theorem State.postLine_verdictRun (s : State) (l : LineSubject) : (s.postLine l).verdictRun = s.verdictRun := rfl
@[simp] theorem State.postLine_probes (s : State) (l : LineSubject) : (s.postLine l).probes = s.probes := rfl
@[simp] theorem State.postLine_curve (s : State) (l : LineSubject) : (s.postLine l).curve = s.curve := rfl
@[simp] theorem State.postLine_staging (s : State) (l : LineSubject) : (s.postLine l).staging = s.staging := rfl
@[simp] theorem State.postLine_arith (s : State) (l : LineSubject) : (s.postLine l).arith = s.arith := rfl
@[simp] theorem State.postLine_sticky (s : State) (l : LineSubject) : (s.postLine l).sticky = s.sticky := rfl
@[simp] theorem State.postLine_deferred (s : State) (l : LineSubject) : (s.postLine l).deferred = s.deferred := rfl
@[simp] theorem State.postLine_zones (s : State) (l : LineSubject) : (s.postLine l).zones = s.zones := rfl
@[simp] theorem State.postLine_wetInputs (s : State) (l : LineSubject) : (s.postLine l).wetInputs = s.wetInputs := rfl
@[simp] theorem State.postLine_outputs (s : State) (l : LineSubject) : (s.postLine l).outputs = s.outputs := rfl
@[simp] theorem State.postLine_alertSet (s : State) (l : LineSubject) : (s.postLine l).alertSet = s.alertSet := rfl
@[simp] theorem State.postLine_alert (s : State) (l : LineSubject) : (s.postLine l).alert = s.alert := rfl
@[simp] theorem State.postLine_noticeArmed (s : State) (l : LineSubject) : (s.postLine l).noticeArmed = s.noticeArmed := rfl

/-! ## A decision is applied -/

@[simp] theorem State.applyDecision_pending (s : State) (z : Fin 24) (d : Decision) : (s.applyDecision z d).pending = s.pending := rfl
@[simp] theorem State.applyDecision_resetLow (s : State) (z : Fin 24) (d : Decision) : (s.applyDecision z d).resetLow = s.resetLow := rfl
@[simp] theorem State.applyDecision_counter (s : State) (z : Fin 24) (d : Decision) : (s.applyDecision z d).counter = s.counter := rfl
@[simp] theorem State.applyDecision_ownAddress (s : State) (z : Fin 24) (d : Decision) : (s.applyDecision z d).ownAddress = s.ownAddress := rfl
@[simp] theorem State.applyDecision_fieldRx (s : State) (z : Fin 24) (d : Decision) : (s.applyDecision z d).fieldRx = s.fieldRx := rfl
@[simp] theorem State.applyDecision_fieldAsm (s : State) (z : Fin 24) (d : Decision) : (s.applyDecision z d).fieldAsm = s.fieldAsm := rfl
@[simp] theorem State.applyDecision_intake (s : State) (z : Fin 24) (d : Decision) : (s.applyDecision z d).intake = s.intake := rfl
@[simp] theorem State.applyDecision_fieldOut (s : State) (z : Fin 24) (d : Decision) : (s.applyDecision z d).fieldOut = s.fieldOut := rfl
@[simp] theorem State.applyDecision_fieldTx (s : State) (z : Fin 24) (d : Decision) : (s.applyDecision z d).fieldTx = s.fieldTx := rfl
@[simp] theorem State.applyDecision_stationRx (s : State) (z : Fin 24) (d : Decision) : (s.applyDecision z d).stationRx = s.stationRx := rfl
@[simp] theorem State.applyDecision_stationAsm (s : State) (z : Fin 24) (d : Decision) : (s.applyDecision z d).stationAsm = s.stationAsm := rfl
@[simp] theorem State.applyDecision_forward (s : State) (z : Fin 24) (d : Decision) : (s.applyDecision z d).forward = s.forward := rfl
@[simp] theorem State.applyDecision_response (s : State) (z : Fin 24) (d : Decision) : (s.applyDecision z d).response = s.response := rfl
@[simp] theorem State.applyDecision_stationTx (s : State) (z : Fin 24) (d : Decision) : (s.applyDecision z d).stationTx = s.stationTx := rfl
@[simp] theorem State.applyDecision_verdictRun (s : State) (z : Fin 24) (d : Decision) : (s.applyDecision z d).verdictRun = s.verdictRun := rfl
@[simp] theorem State.applyDecision_probes (s : State) (z : Fin 24) (d : Decision) : (s.applyDecision z d).probes = s.probes := rfl
@[simp] theorem State.applyDecision_curve (s : State) (z : Fin 24) (d : Decision) : (s.applyDecision z d).curve = s.curve := rfl
@[simp] theorem State.applyDecision_staging (s : State) (z : Fin 24) (d : Decision) : (s.applyDecision z d).staging = s.staging := rfl
@[simp] theorem State.applyDecision_arith (s : State) (z : Fin 24) (d : Decision) : (s.applyDecision z d).arith = s.arith := rfl
@[simp] theorem State.applyDecision_sticky (s : State) (z : Fin 24) (d : Decision) : (s.applyDecision z d).sticky = s.sticky := rfl
@[simp] theorem State.applyDecision_deferred (s : State) (z : Fin 24) (d : Decision) : (s.applyDecision z d).deferred = s.deferred := rfl
@[simp] theorem State.applyDecision_wetInputs (s : State) (z : Fin 24) (d : Decision) : (s.applyDecision z d).wetInputs = s.wetInputs := rfl
@[simp] theorem State.applyDecision_outputs (s : State) (z : Fin 24) (d : Decision) : (s.applyDecision z d).outputs = s.outputs := rfl
@[simp] theorem State.applyDecision_alertSet (s : State) (z : Fin 24) (d : Decision) : (s.applyDecision z d).alertSet = s.alertSet := rfl
@[simp] theorem State.applyDecision_noticeArmed (s : State) (z : Fin 24) (d : Decision) : (s.applyDecision z d).noticeArmed = s.noticeArmed := rfl

/-! ## A zone is evaluated -/

@[simp] theorem State.evaluate_pending (s : State) (z : Fin 24) : (s.evaluate z).pending = s.pending := rfl
@[simp] theorem State.evaluate_resetLow (s : State) (z : Fin 24) : (s.evaluate z).resetLow = s.resetLow := rfl
@[simp] theorem State.evaluate_counter (s : State) (z : Fin 24) : (s.evaluate z).counter = s.counter := rfl
@[simp] theorem State.evaluate_ownAddress (s : State) (z : Fin 24) : (s.evaluate z).ownAddress = s.ownAddress := rfl
@[simp] theorem State.evaluate_fieldRx (s : State) (z : Fin 24) : (s.evaluate z).fieldRx = s.fieldRx := rfl
@[simp] theorem State.evaluate_fieldAsm (s : State) (z : Fin 24) : (s.evaluate z).fieldAsm = s.fieldAsm := rfl
@[simp] theorem State.evaluate_intake (s : State) (z : Fin 24) : (s.evaluate z).intake = s.intake := rfl
@[simp] theorem State.evaluate_fieldOut (s : State) (z : Fin 24) : (s.evaluate z).fieldOut = s.fieldOut := rfl
@[simp] theorem State.evaluate_fieldTx (s : State) (z : Fin 24) : (s.evaluate z).fieldTx = s.fieldTx := rfl
@[simp] theorem State.evaluate_stationRx (s : State) (z : Fin 24) : (s.evaluate z).stationRx = s.stationRx := rfl
@[simp] theorem State.evaluate_stationAsm (s : State) (z : Fin 24) : (s.evaluate z).stationAsm = s.stationAsm := rfl
@[simp] theorem State.evaluate_forward (s : State) (z : Fin 24) : (s.evaluate z).forward = s.forward := rfl
@[simp] theorem State.evaluate_response (s : State) (z : Fin 24) : (s.evaluate z).response = s.response := rfl
@[simp] theorem State.evaluate_stationTx (s : State) (z : Fin 24) : (s.evaluate z).stationTx = s.stationTx := rfl
@[simp] theorem State.evaluate_verdictRun (s : State) (z : Fin 24) : (s.evaluate z).verdictRun = s.verdictRun := rfl
@[simp] theorem State.evaluate_probes (s : State) (z : Fin 24) : (s.evaluate z).probes = s.probes := rfl
@[simp] theorem State.evaluate_curve (s : State) (z : Fin 24) : (s.evaluate z).curve = s.curve := rfl
@[simp] theorem State.evaluate_staging (s : State) (z : Fin 24) : (s.evaluate z).staging = s.staging := rfl
@[simp] theorem State.evaluate_arith (s : State) (z : Fin 24) : (s.evaluate z).arith = s.arith := rfl
@[simp] theorem State.evaluate_sticky (s : State) (z : Fin 24) : (s.evaluate z).sticky = s.sticky := rfl
@[simp] theorem State.evaluate_deferred (s : State) (z : Fin 24) : (s.evaluate z).deferred = s.deferred := rfl
@[simp] theorem State.evaluate_wetInputs (s : State) (z : Fin 24) : (s.evaluate z).wetInputs = s.wetInputs := rfl
@[simp] theorem State.evaluate_outputs (s : State) (z : Fin 24) : (s.evaluate z).outputs = s.outputs := rfl
@[simp] theorem State.evaluate_alertSet (s : State) (z : Fin 24) : (s.evaluate z).alertSet = s.alertSet := rfl
@[simp] theorem State.evaluate_noticeArmed (s : State) (z : Fin 24) : (s.evaluate z).noticeArmed = s.noticeArmed := rfl

/-! ## A wet flag is written -/

@[simp] theorem State.writeWetFlag_pending (s : State) (z : Fin 24) : (s.writeWetFlag z).pending = s.pending := rfl
@[simp] theorem State.writeWetFlag_resetLow (s : State) (z : Fin 24) : (s.writeWetFlag z).resetLow = s.resetLow := rfl
@[simp] theorem State.writeWetFlag_counter (s : State) (z : Fin 24) : (s.writeWetFlag z).counter = s.counter := rfl
@[simp] theorem State.writeWetFlag_ownAddress (s : State) (z : Fin 24) : (s.writeWetFlag z).ownAddress = s.ownAddress := rfl
@[simp] theorem State.writeWetFlag_fieldRx (s : State) (z : Fin 24) : (s.writeWetFlag z).fieldRx = s.fieldRx := rfl
@[simp] theorem State.writeWetFlag_fieldAsm (s : State) (z : Fin 24) : (s.writeWetFlag z).fieldAsm = s.fieldAsm := rfl
@[simp] theorem State.writeWetFlag_intake (s : State) (z : Fin 24) : (s.writeWetFlag z).intake = s.intake := rfl
@[simp] theorem State.writeWetFlag_fieldOut (s : State) (z : Fin 24) : (s.writeWetFlag z).fieldOut = s.fieldOut := rfl
@[simp] theorem State.writeWetFlag_fieldTx (s : State) (z : Fin 24) : (s.writeWetFlag z).fieldTx = s.fieldTx := rfl
@[simp] theorem State.writeWetFlag_stationRx (s : State) (z : Fin 24) : (s.writeWetFlag z).stationRx = s.stationRx := rfl
@[simp] theorem State.writeWetFlag_stationAsm (s : State) (z : Fin 24) : (s.writeWetFlag z).stationAsm = s.stationAsm := rfl
@[simp] theorem State.writeWetFlag_forward (s : State) (z : Fin 24) : (s.writeWetFlag z).forward = s.forward := rfl
@[simp] theorem State.writeWetFlag_verdicts (s : State) (z : Fin 24) : (s.writeWetFlag z).verdicts = s.verdicts := rfl
@[simp] theorem State.writeWetFlag_response (s : State) (z : Fin 24) : (s.writeWetFlag z).response = s.response := rfl
@[simp] theorem State.writeWetFlag_stationTx (s : State) (z : Fin 24) : (s.writeWetFlag z).stationTx = s.stationTx := rfl
@[simp] theorem State.writeWetFlag_verdictRun (s : State) (z : Fin 24) : (s.writeWetFlag z).verdictRun = s.verdictRun := rfl
@[simp] theorem State.writeWetFlag_probes (s : State) (z : Fin 24) : (s.writeWetFlag z).probes = s.probes := rfl
@[simp] theorem State.writeWetFlag_curve (s : State) (z : Fin 24) : (s.writeWetFlag z).curve = s.curve := rfl
@[simp] theorem State.writeWetFlag_staging (s : State) (z : Fin 24) : (s.writeWetFlag z).staging = s.staging := rfl
@[simp] theorem State.writeWetFlag_arith (s : State) (z : Fin 24) : (s.writeWetFlag z).arith = s.arith := rfl
@[simp] theorem State.writeWetFlag_sticky (s : State) (z : Fin 24) : (s.writeWetFlag z).sticky = s.sticky := rfl
@[simp] theorem State.writeWetFlag_deferred (s : State) (z : Fin 24) : (s.writeWetFlag z).deferred = s.deferred := rfl
@[simp] theorem State.writeWetFlag_wetInputs (s : State) (z : Fin 24) : (s.writeWetFlag z).wetInputs = s.wetInputs := rfl
@[simp] theorem State.writeWetFlag_outputs (s : State) (z : Fin 24) : (s.writeWetFlag z).outputs = s.outputs := rfl
@[simp] theorem State.writeWetFlag_alertSet (s : State) (z : Fin 24) : (s.writeWetFlag z).alertSet = s.alertSet := rfl
@[simp] theorem State.writeWetFlag_alert (s : State) (z : Fin 24) : (s.writeWetFlag z).alert = s.alert := rfl
@[simp] theorem State.writeWetFlag_noticePending (s : State) (z : Fin 24) : (s.writeWetFlag z).noticePending = s.noticePending := rfl
@[simp] theorem State.writeWetFlag_noticeArmed (s : State) (z : Fin 24) : (s.writeWetFlag z).noticeArmed = s.noticeArmed := rfl

/-! ## The ALERT line is re-evaluated -/

@[simp] theorem State.refreshAlert_pending (s : State) : (s.refreshAlert).pending = s.pending := rfl
@[simp] theorem State.refreshAlert_resetLow (s : State) : (s.refreshAlert).resetLow = s.resetLow := rfl
@[simp] theorem State.refreshAlert_counter (s : State) : (s.refreshAlert).counter = s.counter := rfl
@[simp] theorem State.refreshAlert_ownAddress (s : State) : (s.refreshAlert).ownAddress = s.ownAddress := rfl
@[simp] theorem State.refreshAlert_fieldRx (s : State) : (s.refreshAlert).fieldRx = s.fieldRx := rfl
@[simp] theorem State.refreshAlert_fieldAsm (s : State) : (s.refreshAlert).fieldAsm = s.fieldAsm := rfl
@[simp] theorem State.refreshAlert_intake (s : State) : (s.refreshAlert).intake = s.intake := rfl
@[simp] theorem State.refreshAlert_fieldOut (s : State) : (s.refreshAlert).fieldOut = s.fieldOut := rfl
@[simp] theorem State.refreshAlert_fieldTx (s : State) : (s.refreshAlert).fieldTx = s.fieldTx := rfl
@[simp] theorem State.refreshAlert_stationRx (s : State) : (s.refreshAlert).stationRx = s.stationRx := rfl
@[simp] theorem State.refreshAlert_stationAsm (s : State) : (s.refreshAlert).stationAsm = s.stationAsm := rfl
@[simp] theorem State.refreshAlert_forward (s : State) : (s.refreshAlert).forward = s.forward := rfl
@[simp] theorem State.refreshAlert_verdicts (s : State) : (s.refreshAlert).verdicts = s.verdicts := rfl
@[simp] theorem State.refreshAlert_response (s : State) : (s.refreshAlert).response = s.response := rfl
@[simp] theorem State.refreshAlert_stationTx (s : State) : (s.refreshAlert).stationTx = s.stationTx := rfl
@[simp] theorem State.refreshAlert_verdictRun (s : State) : (s.refreshAlert).verdictRun = s.verdictRun := rfl
@[simp] theorem State.refreshAlert_probes (s : State) : (s.refreshAlert).probes = s.probes := rfl
@[simp] theorem State.refreshAlert_curve (s : State) : (s.refreshAlert).curve = s.curve := rfl
@[simp] theorem State.refreshAlert_staging (s : State) : (s.refreshAlert).staging = s.staging := rfl
@[simp] theorem State.refreshAlert_arith (s : State) : (s.refreshAlert).arith = s.arith := rfl
@[simp] theorem State.refreshAlert_sticky (s : State) : (s.refreshAlert).sticky = s.sticky := rfl
@[simp] theorem State.refreshAlert_deferred (s : State) : (s.refreshAlert).deferred = s.deferred := rfl
@[simp] theorem State.refreshAlert_zones (s : State) : (s.refreshAlert).zones = s.zones := rfl
@[simp] theorem State.refreshAlert_wetInputs (s : State) : (s.refreshAlert).wetInputs = s.wetInputs := rfl
@[simp] theorem State.refreshAlert_outputs (s : State) : (s.refreshAlert).outputs = s.outputs := rfl
@[simp] theorem State.refreshAlert_alertSet (s : State) : (s.refreshAlert).alertSet = s.alertSet := rfl
@[simp] theorem State.refreshAlert_noticePending (s : State) : (s.refreshAlert).noticePending = s.noticePending := rfl
@[simp] theorem State.refreshAlert_noticeArmed (s : State) : (s.refreshAlert).noticeArmed = s.noticeArmed := rfl

/-! ## A period begins -/

@[simp] theorem State.periodBoundary_pending (s : State) (i : Fin 4) (b : Stamp) : (s.periodBoundary i b).pending = s.pending := rfl
@[simp] theorem State.periodBoundary_resetLow (s : State) (i : Fin 4) (b : Stamp) : (s.periodBoundary i b).resetLow = s.resetLow := rfl
@[simp] theorem State.periodBoundary_counter (s : State) (i : Fin 4) (b : Stamp) : (s.periodBoundary i b).counter = s.counter := rfl
@[simp] theorem State.periodBoundary_ownAddress (s : State) (i : Fin 4) (b : Stamp) : (s.periodBoundary i b).ownAddress = s.ownAddress := rfl
@[simp] theorem State.periodBoundary_fieldRx (s : State) (i : Fin 4) (b : Stamp) : (s.periodBoundary i b).fieldRx = s.fieldRx := rfl
@[simp] theorem State.periodBoundary_fieldAsm (s : State) (i : Fin 4) (b : Stamp) : (s.periodBoundary i b).fieldAsm = s.fieldAsm := rfl
@[simp] theorem State.periodBoundary_intake (s : State) (i : Fin 4) (b : Stamp) : (s.periodBoundary i b).intake = s.intake := rfl
@[simp] theorem State.periodBoundary_fieldOut (s : State) (i : Fin 4) (b : Stamp) : (s.periodBoundary i b).fieldOut = s.fieldOut := rfl
@[simp] theorem State.periodBoundary_fieldTx (s : State) (i : Fin 4) (b : Stamp) : (s.periodBoundary i b).fieldTx = s.fieldTx := rfl
@[simp] theorem State.periodBoundary_stationRx (s : State) (i : Fin 4) (b : Stamp) : (s.periodBoundary i b).stationRx = s.stationRx := rfl
@[simp] theorem State.periodBoundary_stationAsm (s : State) (i : Fin 4) (b : Stamp) : (s.periodBoundary i b).stationAsm = s.stationAsm := rfl
@[simp] theorem State.periodBoundary_forward (s : State) (i : Fin 4) (b : Stamp) : (s.periodBoundary i b).forward = s.forward := rfl
@[simp] theorem State.periodBoundary_verdicts (s : State) (i : Fin 4) (b : Stamp) : (s.periodBoundary i b).verdicts = s.verdicts := rfl
@[simp] theorem State.periodBoundary_response (s : State) (i : Fin 4) (b : Stamp) : (s.periodBoundary i b).response = s.response := rfl
@[simp] theorem State.periodBoundary_stationTx (s : State) (i : Fin 4) (b : Stamp) : (s.periodBoundary i b).stationTx = s.stationTx := rfl
@[simp] theorem State.periodBoundary_verdictRun (s : State) (i : Fin 4) (b : Stamp) : (s.periodBoundary i b).verdictRun = s.verdictRun := rfl
@[simp] theorem State.periodBoundary_probes (s : State) (i : Fin 4) (b : Stamp) : (s.periodBoundary i b).probes = s.probes := rfl
@[simp] theorem State.periodBoundary_curve (s : State) (i : Fin 4) (b : Stamp) : (s.periodBoundary i b).curve = s.curve := rfl
@[simp] theorem State.periodBoundary_staging (s : State) (i : Fin 4) (b : Stamp) : (s.periodBoundary i b).staging = s.staging := rfl
@[simp] theorem State.periodBoundary_arith (s : State) (i : Fin 4) (b : Stamp) : (s.periodBoundary i b).arith = s.arith := rfl
@[simp] theorem State.periodBoundary_sticky (s : State) (i : Fin 4) (b : Stamp) : (s.periodBoundary i b).sticky = s.sticky := rfl
@[simp] theorem State.periodBoundary_deferred (s : State) (i : Fin 4) (b : Stamp) : (s.periodBoundary i b).deferred = s.deferred := rfl
@[simp] theorem State.periodBoundary_zones (s : State) (i : Fin 4) (b : Stamp) : (s.periodBoundary i b).zones = s.zones := rfl
@[simp] theorem State.periodBoundary_wetInputs (s : State) (i : Fin 4) (b : Stamp) : (s.periodBoundary i b).wetInputs = s.wetInputs := rfl
@[simp] theorem State.periodBoundary_alertSet (s : State) (i : Fin 4) (b : Stamp) : (s.periodBoundary i b).alertSet = s.alertSet := rfl
@[simp] theorem State.periodBoundary_alert (s : State) (i : Fin 4) (b : Stamp) : (s.periodBoundary i b).alert = s.alert := rfl
@[simp] theorem State.periodBoundary_noticePending (s : State) (i : Fin 4) (b : Stamp) : (s.periodBoundary i b).noticePending = s.noticePending := rfl
@[simp] theorem State.periodBoundary_noticeArmed (s : State) (i : Fin 4) (b : Stamp) : (s.periodBoundary i b).noticeArmed = s.noticeArmed := rfl

/-! ## A frame starts up the station line -/

@[simp] theorem State.startStation_pending (s : State) (f : Frame) : (s.startStation f).pending = s.pending := rfl
@[simp] theorem State.startStation_resetLow (s : State) (f : Frame) : (s.startStation f).resetLow = s.resetLow := rfl
@[simp] theorem State.startStation_counter (s : State) (f : Frame) : (s.startStation f).counter = s.counter := rfl
@[simp] theorem State.startStation_ownAddress (s : State) (f : Frame) : (s.startStation f).ownAddress = s.ownAddress := rfl
@[simp] theorem State.startStation_fieldRx (s : State) (f : Frame) : (s.startStation f).fieldRx = s.fieldRx := rfl
@[simp] theorem State.startStation_fieldAsm (s : State) (f : Frame) : (s.startStation f).fieldAsm = s.fieldAsm := rfl
@[simp] theorem State.startStation_intake (s : State) (f : Frame) : (s.startStation f).intake = s.intake := rfl
@[simp] theorem State.startStation_fieldOut (s : State) (f : Frame) : (s.startStation f).fieldOut = s.fieldOut := rfl
@[simp] theorem State.startStation_fieldTx (s : State) (f : Frame) : (s.startStation f).fieldTx = s.fieldTx := rfl
@[simp] theorem State.startStation_stationRx (s : State) (f : Frame) : (s.startStation f).stationRx = s.stationRx := rfl
@[simp] theorem State.startStation_stationAsm (s : State) (f : Frame) : (s.startStation f).stationAsm = s.stationAsm := rfl
@[simp] theorem State.startStation_forward (s : State) (f : Frame) : (s.startStation f).forward = s.forward := rfl
@[simp] theorem State.startStation_verdicts (s : State) (f : Frame) : (s.startStation f).verdicts = s.verdicts := rfl
@[simp] theorem State.startStation_response (s : State) (f : Frame) : (s.startStation f).response = s.response := rfl
@[simp] theorem State.startStation_verdictRun (s : State) (f : Frame) : (s.startStation f).verdictRun = s.verdictRun := rfl
@[simp] theorem State.startStation_probes (s : State) (f : Frame) : (s.startStation f).probes = s.probes := rfl
@[simp] theorem State.startStation_curve (s : State) (f : Frame) : (s.startStation f).curve = s.curve := rfl
@[simp] theorem State.startStation_staging (s : State) (f : Frame) : (s.startStation f).staging = s.staging := rfl
@[simp] theorem State.startStation_arith (s : State) (f : Frame) : (s.startStation f).arith = s.arith := rfl
@[simp] theorem State.startStation_sticky (s : State) (f : Frame) : (s.startStation f).sticky = s.sticky := rfl
@[simp] theorem State.startStation_deferred (s : State) (f : Frame) : (s.startStation f).deferred = s.deferred := rfl
@[simp] theorem State.startStation_zones (s : State) (f : Frame) : (s.startStation f).zones = s.zones := rfl
@[simp] theorem State.startStation_wetInputs (s : State) (f : Frame) : (s.startStation f).wetInputs = s.wetInputs := rfl
@[simp] theorem State.startStation_outputs (s : State) (f : Frame) : (s.startStation f).outputs = s.outputs := rfl
@[simp] theorem State.startStation_alertSet (s : State) (f : Frame) : (s.startStation f).alertSet = s.alertSet := rfl
@[simp] theorem State.startStation_alert (s : State) (f : Frame) : (s.startStation f).alert = s.alert := rfl
@[simp] theorem State.startStation_noticePending (s : State) (f : Frame) : (s.startStation f).noticePending = s.noticePending := rfl
@[simp] theorem State.startStation_noticeArmed (s : State) (f : Frame) : (s.startStation f).noticeArmed = s.noticeArmed := rfl

/-! ## A response is placed -/

@[simp] theorem State.place_pending (own code : Byte) (a : Answer) : (State.place own code a).pending = a.state.pending := rfl
@[simp] theorem State.place_resetLow (own code : Byte) (a : Answer) : (State.place own code a).resetLow = a.state.resetLow := rfl
@[simp] theorem State.place_counter (own code : Byte) (a : Answer) : (State.place own code a).counter = a.state.counter := rfl
@[simp] theorem State.place_ownAddress (own code : Byte) (a : Answer) : (State.place own code a).ownAddress = a.state.ownAddress := rfl
@[simp] theorem State.place_fieldRx (own code : Byte) (a : Answer) : (State.place own code a).fieldRx = a.state.fieldRx := rfl
@[simp] theorem State.place_fieldAsm (own code : Byte) (a : Answer) : (State.place own code a).fieldAsm = a.state.fieldAsm := rfl
@[simp] theorem State.place_intake (own code : Byte) (a : Answer) : (State.place own code a).intake = a.state.intake := rfl
@[simp] theorem State.place_fieldOut (own code : Byte) (a : Answer) : (State.place own code a).fieldOut = a.state.fieldOut := rfl
@[simp] theorem State.place_fieldTx (own code : Byte) (a : Answer) : (State.place own code a).fieldTx = a.state.fieldTx := rfl
@[simp] theorem State.place_stationRx (own code : Byte) (a : Answer) : (State.place own code a).stationRx = a.state.stationRx := rfl
@[simp] theorem State.place_stationAsm (own code : Byte) (a : Answer) : (State.place own code a).stationAsm = a.state.stationAsm := rfl
@[simp] theorem State.place_forward (own code : Byte) (a : Answer) : (State.place own code a).forward = a.state.forward := rfl
@[simp] theorem State.place_verdicts (own code : Byte) (a : Answer) : (State.place own code a).verdicts = a.state.verdicts := rfl
@[simp] theorem State.place_stationTx (own code : Byte) (a : Answer) : (State.place own code a).stationTx = a.state.stationTx := rfl
@[simp] theorem State.place_verdictRun (own code : Byte) (a : Answer) : (State.place own code a).verdictRun = a.state.verdictRun := rfl
@[simp] theorem State.place_probes (own code : Byte) (a : Answer) : (State.place own code a).probes = a.state.probes := rfl
@[simp] theorem State.place_curve (own code : Byte) (a : Answer) : (State.place own code a).curve = a.state.curve := rfl
@[simp] theorem State.place_staging (own code : Byte) (a : Answer) : (State.place own code a).staging = a.state.staging := rfl
@[simp] theorem State.place_arith (own code : Byte) (a : Answer) : (State.place own code a).arith = a.state.arith := rfl
@[simp] theorem State.place_sticky (own code : Byte) (a : Answer) : (State.place own code a).sticky = a.state.sticky := rfl
@[simp] theorem State.place_deferred (own code : Byte) (a : Answer) : (State.place own code a).deferred = a.state.deferred := rfl
@[simp] theorem State.place_zones (own code : Byte) (a : Answer) : (State.place own code a).zones = a.state.zones := rfl
@[simp] theorem State.place_wetInputs (own code : Byte) (a : Answer) : (State.place own code a).wetInputs = a.state.wetInputs := rfl
@[simp] theorem State.place_outputs (own code : Byte) (a : Answer) : (State.place own code a).outputs = a.state.outputs := rfl
@[simp] theorem State.place_alertSet (own code : Byte) (a : Answer) : (State.place own code a).alertSet = a.state.alertSet := rfl
@[simp] theorem State.place_alert (own code : Byte) (a : Answer) : (State.place own code a).alert = a.state.alert := rfl
@[simp] theorem State.place_noticePending (own code : Byte) (a : Answer) : (State.place own code a).noticePending = a.state.noticePending := rfl
@[simp] theorem State.place_noticeArmed (own code : Byte) (a : Answer) : (State.place own code a).noticeArmed = a.state.noticeArmed := rfl

/-! ## Lookup after update -/

@[simp] theorem State.setProbes_probes (s : State) (p : List ProbeEntry) : (s.setProbes p).probes = p := rfl
@[simp] theorem State.refreshAlert_alert (s : State) : s.refreshAlert.alert = s.alertNow := rfl
@[simp] theorem State.setZone_zone_same (s : State) (z : Fin 24) (r : Zone) : (s.setZone z r).zone z = r := by
  simp [State.setZone, State.zone]

theorem State.setZone_zone_other (s : State) {z y : Fin 24} (r : Zone) (h : y ≠ z) : (s.setZone z r).zone y = s.zone y := by
  simp [State.setZone, State.zone, Fin.val_ne_iff.mpr (Ne.symm h)]

@[simp] theorem State.setWetInput_wetInput_same (s : State) (i : Fin 4) (r : WetInput) :
    (s.setWetInput i r).wetInput i = r := by
  simp [State.setWetInput, State.wetInput]

theorem State.setWetInput_wetInput_other (s : State) {i j : Fin 4} (r : WetInput) (h : j ≠ i) :
    (s.setWetInput i r).wetInput j = s.wetInput j := by
  simp [State.setWetInput, State.wetInput, Fin.val_ne_iff.mpr (Ne.symm h)]

@[simp] theorem State.setOutput_output_same (s : State) (o : Fin 4) (r : Output) : (s.setOutput o r).output o = r := by
  simp [State.setOutput, State.output]

theorem State.setOutput_output_other (s : State) {o p : Fin 4} (r : Output) (h : p ≠ o) :
    (s.setOutput o r).output p = s.output p := by
  simp [State.setOutput, State.output, Fin.val_ne_iff.mpr (Ne.symm h)]

/-- A decision changes its own zone's record only. -/
theorem State.applyDecision_zone_same (s : State) (z : Fin 24) (d : Decision) : (s.applyDecision z d).zone z = d.zone := by
  simp [State.applyDecision, State.zone]

theorem State.applyDecision_zone_other (s : State) {z y : Fin 24} (d : Decision) (h : y ≠ z) :
    (s.applyDecision z d).zone y = s.zone y := by
  simp [State.applyDecision, State.zone, Fin.val_ne_iff.mpr (Ne.symm h)]

end Sys2Proof.Machine
end

