-- ==== Sys2Proof/Laws/Ops.lean ====
section
/-! SUPPORT. One lemma per shared operation, saying once what it can do: how events, expiries and commands meet the part, what
the arbiter, the transmitters and the receive pairs do, and what the records' operations leave. -/

namespace Sys2Proof.Machine

open Sys2Proof

/-! ## Meeting an event -/

theorem State.settle_of_settled (s : State) (h : s.settled = true) : s.settle = s := by simp [State.settle, h]

/-- An event acts on the settled part. -/
theorem event_meets {s t : State} (h : s.meets t) (take : State → State) : event s take = .next (take t) := by
  obtain ⟨low, rfl⟩ := h
  simp [event, low]

/-- A line event acts on the settled part. -/
theorem pinEvent_meets {s t : State} (h : s.meets t) (held take : State → State) :
    pinEvent s held take = .next (take t) := by
  obtain ⟨low, rfl⟩ := h
  simp [pinEvent, low]

/-- A reached deadline's expiry is taken. -/
theorem expiryEvent_expires {s t : State} {d : State → Deadline} (h : s.expires t d) (take : State → State) :
    expiryEvent s d take = .next (take t) := by
  rw [expiryEvent, event_meets h.1, if_pos h.2]

/-- The expiry of a deadline that is not reached only settles the part. -/
theorem expiryEvent_ahead {s : State} {d : State → Deadline} (low : s.resetLow = false)
    (ahead : deadlineExpired (d s.settle) s.settle.counter = false) (take : State → State) :
    expiryEvent s d take = .next s.settle := by
  rw [expiryEvent, event_meets ⟨low, rfl⟩, if_neg (by simp [ahead])]

/-- Of slots due at once the row of one takes it before the others. -/
theorem execSlotExpiry_due {s : State} {z : Fin 24} {k : Fin 8} (low : s.resetLow = false)
    (due : deadlineDue (s.slotDeadline z k) = true) : execSlotExpiry z k s = .next (State.takeSlot z k s) := by
  simp [execSlotExpiry, low, due]

theorem execSlotExpiry_undue {s : State} {z : Fin 24} {k : Fin 8} (undue : deadlineDue (s.slotDeadline z k) = false) :
    execSlotExpiry z k s = expiryEvent s (fun t => t.slotDeadline z k) (State.takeSlot z k) := by
  simp [execSlotExpiry, undue]

/-- An expiry is taken at once exactly when it is due at once. -/
theorem State.takeIfDue_cases (s : State) (due : State → Bool) (take : State → State) :
    (due s = true ∧ s.takeIfDue due take = take s) ∨ (due s = false ∧ s.takeIfDue due take = s) := by
  cases h : due s <;> simp [State.takeIfDue, h]

/-- At the end of a count an expiry is taken exactly when the count has reached it, with what it makes due at once. -/
theorem State.takeIfReached_cases (s : State) (d : State → Deadline) (take : State → State) :
    (deadlineExpired (d s) s.counter = true ∧ s.takeIfReached d take = (take s).settle) ∨
    (deadlineExpired (d s) s.counter = false ∧ s.takeIfReached d take = s) := by
  cases h : deadlineExpired (d s) s.counter <;> simp [State.takeIfReached, h]

/-- A count that leaves nothing to take ends with the count alone. -/
theorem State.tick_quiet {s : State} (h : s.nothingReached = true) : s.tick = { s with counter := s.counter + 1 } := by
  simp [State.tick, State.finishCount, h]

/-! ## What the expiries keep -/

/-- Every expiry event, whole, keeps a property of the part. -/
structure ExpiriesKeep (P : State → Prop) : Prop where
  silence : ∀ (a : Byte) (s : State), P s → P (s.takeSilence a)
  slot : ∀ (z : Fin 24) (k : Fin 8) (s : State), P s → P (s.takeSlot z k)
  trend : ∀ (z : Fin 24) (s : State), P s → P (s.takeTrend z)
  persistence : ∀ (z : Fin 24) (s : State), P s → P (s.takePersistence z)
  blind : ∀ (z : Fin 24) (s : State), P s → P (s.takeBlind z)
  qualification : ∀ (i : Fin 4) (s : State), P s → P (s.takeQualification i)
  boundary : ∀ (i : Fin 4) (s : State), P s → P (s.takeBoundary i)
  duty : ∀ (i : Fin 4) (s : State), P s → P (s.dutyEnd i)

/-- A property kept by each turn of a fold is kept by the fold. -/
theorem foldl_keeps {α : Type} (P : State → Prop) {f : State → α → State} (keep : ∀ s a, P s → P (f s a)) (l : List α)
    (s : State) (h : P s) : P (l.foldl f s) := by
  induction l generalizing s with
  | nil => exact h
  | cons a l ih => exact ih _ (keep s a h)

theorem State.takeIfDue_keeps (P : State → Prop) {due : State → Bool} {take : State → State} (keep : ∀ s, P s → P (take s))
    (s : State) (h : P s) : P (s.takeIfDue due take) := by
  rcases s.takeIfDue_cases due take with ⟨_, e⟩ | ⟨_, e⟩ <;> rw [e]
  · exact keep s h
  · exact h

theorem State.takeDueZone_keeps {P : State → Prop} (k : ExpiriesKeep P) (s : State) (z : Fin 24) (h : P s) :
    P (s.takeDueZone z) := by
  unfold State.takeDueZone
  refine takeIfDue_keeps P (k.blind z) _ (takeIfDue_keeps P (k.persistence z) _ (foldl_keeps P (fun s j => ?_) _ s h))
  exact takeIfDue_keeps P (k.slot z j) s

theorem State.takeDueZones_keeps {P : State → Prop} (k : ExpiriesKeep P) (s : State) (h : P s) : P s.takeDueZones :=
  foldl_keeps P (takeDueZone_keeps k) _ s h

/-- What every expiry event keeps, taking the expiries due at once keeps. -/
theorem State.settle_keeps {P : State → Prop} (k : ExpiriesKeep P) (s : State) (h : P s) : P s.settle := by
  unfold State.settle
  split
  · exact h
  · refine foldl_keeps P (fun s a => ?_) _ _ (foldl_keeps P (fun s i => ?_) _ _ (takeDueZones_keeps k s h))
    · exact takeIfDue_keeps P (fun s h => takeDueZones_keeps k _ (k.silence a s h)) s
    · exact takeIfDue_keeps P (fun s h => takeDueZones_keeps k _ (k.qualification i s h)) s

theorem State.takeIfReached_keeps {P : State → Prop} (k : ExpiriesKeep P) {d : State → Deadline} {take : State → State}
    (keep : ∀ s, P s → P (take s)) (s : State) (h : P s) : P (s.takeIfReached d take) := by
  rcases s.takeIfReached_cases d take with ⟨_, e⟩ | ⟨_, e⟩ <;> rw [e]
  · exact settle_keeps k _ (keep s h)
  · exact h

theorem State.takeReachedZone_keeps {P : State → Prop} (k : ExpiriesKeep P) (s : State) (z : Fin 24) (h : P s) :
    P (s.takeReachedZone z) := by
  unfold State.takeReachedZone
  refine takeIfReached_keeps k (k.blind z) _ (takeIfReached_keeps k (k.persistence z) _
    (takeIfReached_keeps k (k.trend z) _ (foldl_keeps P (fun s j => ?_) _ s h)))
  exact takeIfReached_keeps k (k.slot z j) s

/-- What every expiry event keeps, the end of a count keeps. -/
theorem State.finishCount_keeps {P : State → Prop} (k : ExpiriesKeep P) (s : State) (h : P s) : P s.finishCount := by
  unfold State.finishCount
  split
  · exact h
  · refine foldl_keeps P (fun s i h => k.duty i _ (takeIfReached_keeps k (k.boundary i) s h)) _ _
      (foldl_keeps P (takeReachedZone_keeps k) _ _ (foldl_keeps P (fun s a => ?_) _ _ (foldl_keeps P (fun s i => ?_) _ s h)))
    · exact takeIfReached_keeps k (k.silence a) s
    · exact takeIfReached_keeps k (k.qualification i) s

/-! ## A part held in reset -/

/-- Held in reset, no event is taken. -/
theorem event_held {s : State} (low : s.resetLow = true) (take : State → State) : event s take = .next s := by
  simp [event, low]

theorem pinEvent_held {s : State} (low : s.resetLow = true) (held take : State → State) :
    pinEvent s held take = .next (held s) := by simp [pinEvent, low]

theorem expiryEvent_held {s : State} (low : s.resetLow = true) (d : State → Deadline) (take : State → State) :
    expiryEvent s d take = .next s := event_held low _

/-- Whatever an event does, it does it to the part or to the settled part. -/
theorem event_next (s : State) (take : State → State) : event s take = .next (if s.resetLow then s else take s.settle) := rfl

theorem pinEvent_next (s : State) (held take : State → State) :
    pinEvent s held take = .next (if s.resetLow then held s else take s.settle) := rfl

/-! ## Commands -/

/-- A command the part can take is run on an IDLE station assembler, and the arbiter then chooses. -/
theorem takeCommand_hears {s u : State} (h : s.hears u) (payload : List Byte) (run : State → State) :
    event s (State.takeCommand payload run) = .next (run u).arbitrate := by
  obtain ⟨low, free, empty, rfl⟩ := h
  simp [event, low, State.takeCommand, free, empty]

/-- A COMMAND row's answer goes into the response slot. -/
theorem commandRow_hears {s u : State} (h : s.hears u) (code : Nat) (fields : List Byte) (answer : State → Answer) :
    commandRow code fields answer s = .next (State.place u.ownAddress (BitVec.ofNat 8 code) (answer u)).arbitrate :=
  takeCommand_hears h _ _

/-- A COMMAND row whose answer carries on from `v`. -/
theorem commandRow_answered {s u : State} (h : s.hears u) (code : Nat) (fields : List Byte) {answer : State → Answer}
    {v : State} {r : Result} {data : List Byte} (own : v.ownAddress = u.ownAddress)
    (e : answer u = { result := r, data := data, state := v }) :
    commandRow code fields answer s = answered v code r data := by
  rw [commandRow_hears h, e]
  simp [answered, State.place, own]

/-- A command the slot has no room for is held; a held frame keeps any other away. -/
theorem takeCommand_full {s : State} (free : s.stationAsm.holding = false) (full : s.response.isSome = true)
    (payload : List Byte) (run : State → State) :
    State.takeCommand payload run s =
      { s with
        stationAsm := .hold (commandRecord s.ownAddress payload), stationRx := { s.stationRx with ack := false } } := by
  simp [State.takeCommand, free, full]

theorem takeCommand_holding {s : State} (held : s.stationAsm.holding = true) (payload : List Byte) (run : State → State) :
    State.takeCommand payload run s = s := by simp [State.takeCommand, held]

/-! ## Answers -/

/-- A payload of the right length is judged further; any other is refused LENGTH. -/
theorem sized_right {n : Nat} {f : List Byte} (h : f.length = n) (s : State) (a : Answer) : sized n f s a = a := by
  simp [sized, h]

theorem sized_wrong {n : Nat} {f : List Byte} (h : f.length ≠ n) (s : State) (a : Answer) :
    sized n f s a = refuse .length s := by simp [sized, h]

theorem zoneOf_fin (z : Fin 24) : zoneOf z = some z := by simp [zoneOf]

theorem zoneOf_out {n : Nat} (h : 24 ≤ n) : zoneOf n = none := by simp [zoneOf, h]

theorem unitOf_fin (i : Fin 4) : unitOf i = some i := by simp [unitOf]

theorem unitOf_out {n : Nat} (h : 4 ≤ n) : unitOf n = none := by simp [unitOf, h]

theorem withZone_fin (z : Fin 24) (s : State) (k : Fin 24 → Answer) : withZone z s k = k z := by
  simp [withZone, zoneOf_fin]

theorem withZone_out {n : Nat} (h : 24 ≤ n) (s : State) (k : Fin 24 → Answer) : withZone n s k = refuse .range s := by
  simp [withZone, zoneOf_out h]

theorem withUnit_fin (i : Fin 4) (s : State) (k : Fin 4 → Answer) : withUnit i s k = k i := by
  simp [withUnit, unitOf_fin]

theorem withUnit_out {n : Nat} (h : 4 ≤ n) (s : State) (k : Fin 4 → Answer) : withUnit n s k = refuse .range s := by
  simp [withUnit, unitOf_out h]

@[simp] theorem u8_cons_zero (b : Byte) (f : List Byte) : u8 (b :: f) 0 = b.toNat := rfl

theorem u8_lt (f : List Byte) (i : Nat) : u8 f i < 256 := (f.getD i 0).isLt

theorem u16_lt (f : List Byte) (i : Nat) : u16 f i < 65536 := by
  have := u8_lt f i
  have := u8_lt f (i + 1)
  simp only [u16]
  omega

/-! ## The arbiter and the transmitters -/

theorem State.arbitrate_busy {s : State} (h : s.stationTx.sender ≠ .idle) : s.arbitrate = s := by
  simp [State.arbitrate, Transmitter.isIdle, h]

theorem State.arbitrate_idle {s : State} (h : s.stationTx.sender = .idle) : s.arbitrate = s.choose := by
  simp [State.arbitrate, Transmitter.isIdle, h]

/-- With nothing waiting the arbiter chooses nothing. -/
theorem State.choose_nothing {s : State} (r : s.response = none) (v : s.verdicts = []) (f : s.forward = []) :
    s.choose = s := by simp [State.choose, State.sendForwarded, r, v, f]

/-- The start of a frame, by the level of the acknowledge line. -/
theorem Transmitter.start_ack {t : Transmitter} (h : t.ack = true) (f : Frame) :
    t.start f = { t with sender := .sending f 1, strobe := false } := by
  simp [Transmitter.start, Transmitter.present, h]

theorem Transmitter.start_clear {t : Transmitter} (h : t.ack = false) (f : Frame) :
    t.start f = { t with sender := .sending f 1, data := mkSymbol (f.getD 0 0) true, strobe := true } := by
  simp [Transmitter.start, Transmitter.present, h]

@[simp] theorem Transmitter.start_sender (t : Transmitter) (f : Frame) : (t.start f).sender = .sending f 1 := by
  cases h : t.ack <;> simp [Transmitter.start_ack, Transmitter.start_clear, h]

@[simp] theorem Transmitter.start_owed (t : Transmitter) (f : Frame) : (t.start f).owed = t.owed := by
  cases h : t.ack <;> simp [Transmitter.start_ack, Transmitter.start_clear, h]

/-- A symbol waiting to be presented is presented once the acknowledge is low. -/
theorem Transmitter.ackFall_waiting {t : Transmitter} {f : Frame} {p : Nat} (h : t.sender = .sending f p)
    (low : t.strobe = false) :
    t.ackFall = { t with data := mkSymbol (f.getD (p - 1) 0) (p == 1), strobe := true, ack := false } := by
  simp [Transmitter.ackFall, Transmitter.present, h, low]

/-- The acknowledge of a presented symbol. -/
theorem Transmitter.ackRise_presented {t : Transmitter} {f : Frame} {p : Nat} (h : t.sender = .sending f p)
    (high : t.strobe = true) (low : t.ack = false) (own : t.owed = false) :
    t.ackRise =
      { t with sender := if p < f.length then .sending f (p + 1) else .idle, strobe := false, ack := true } := by
  simp [Transmitter.ackRise, h, high, low, own]

/-- The rise that an abandoned symbol owes acknowledges nothing. -/
theorem Transmitter.ackRise_owed {t : Transmitter} (low : t.ack = false) (owed : t.owed = true) :
    t.ackRise = { t with ack := true, owed := false } := by
  simp [Transmitter.ackRise, low, owed]

/-- A busy field transmitter takes nothing from its queue. -/
theorem State.pumpField_busy {s : State} (h : s.fieldTx.sender ≠ .idle) : s.pumpField = s := by
  simp [State.pumpField, Transmitter.isIdle, h]

theorem State.pumpField_empty {s : State} (h : s.fieldOut = []) : s.pumpField = s := by
  cases e : s.fieldTx.isIdle <;> simp [State.pumpField, h, e]

/-- A frame that no assembler holds releases nothing. -/
theorem State.releaseFieldFrame_free {s : State} (h : s.stationAsm.holding = false) : s.releaseFieldFrame = s := by
  cases e : s.stationAsm <;> simp_all [State.releaseFieldFrame, Assembler.holding]

theorem State.releaseCommand_free {s : State} (h : s.stationAsm.holding = false) : s.releaseCommand = s := by
  cases e : s.stationAsm <;> simp_all [State.releaseCommand, Assembler.holding]

/-! ## The receive assembler -/

/-- Symbols 4 and on of a frame of known length, before the last and at it. -/
theorem continueFrame_middle {keep : Bool} {r : FrameRecord} {n : Nat} (len : r.len = some n) (low : 3 ≤ r.bytes.length)
    (w : Symbol) :
    continueFrame keep r w =
      if r.bytes.length = n + 3 then
        .complete { r with bytes := r.bytes ++ [symbolData w], damaged := r.damaged || !goodParity w }
      else .quiet (.receiving { r with bytes := r.bytes ++ [symbolData w], damaged := r.damaged || !goodParity w }) := by
  unfold continueFrame
  split
  · omega
  · omega
  · simp only [len]
    by_cases h : r.bytes.length = n + 3
    · rw [if_pos (by omega), if_pos h]
    · rw [if_neg (by omega), if_neg h]

/-! ## Records -/

/-- The entry found for an address is the entry of that address, and it stands in the table. -/
theorem State.findProbe_some {s : State} {a : Byte} {e : ProbeEntry} (h : s.findProbe a = some e) :
    e.load.address = a ∧ e ∈ s.probes := by
  refine ⟨?_, List.mem_of_find?_eq_some h⟩
  simpa using List.find?_some h

/-- A new runtime part evaluates the zone exactly when the contribution changed. -/
theorem State.updateProbe_cases (s : State) (e f : ProbeEntry) :
    (e.contribution = f.contribution ∧ s.updateProbe e f = s.setProbes (replaceProbe f s.probes)) ∨
    (e.contribution ≠ f.contribution ∧ s.updateProbe e f = (s.setProbes (replaceProbe f s.probes)).evaluate e.load.zone) := by
  by_cases h : e.contribution = f.contribution <;> simp [State.updateProbe, h]

/-- A move to the state a zone is in is no change; a move to another is one, named by its cause. -/
theorem Decision.move_cases (d : Decision) (next : ZoneState) (c : Cause) (r : Readings) :
    (d.zone.state = next ∧ d.move next c r = d) ∨
    (d.zone.state ≠ next ∧
      d.move next c r =
        { zone := { d.zone with state := next }
          changes := d.changes ++ [{ fromState := d.zone.state, toState := next, cause := c, readings := r }] }) := by
  by_cases h : d.zone.state = next <;> simp [Decision.move, h]

@[simp] theorem Decision.move_state (d : Decision) (next : ZoneState) (c : Cause) (r : Readings) :
    (d.move next c r).zone.state = next := by
  rcases d.move_cases next c r with ⟨h, e⟩ | ⟨_, e⟩ <;> simp [*]

@[simp] theorem Decision.move_enabled (d : Decision) (next : ZoneState) (c : Cause) (r : Readings) :
    (d.move next c r).zone.enabled = d.zone.enabled := by
  rcases d.move_cases next c r with ⟨_, e⟩ | ⟨_, e⟩ <;> simp [e]

@[simp] theorem Decision.move_wet (d : Decision) (next : ZoneState) (c : Cause) (r : Readings) :
    (d.move next c r).zone.wet = d.zone.wet := by
  rcases d.move_cases next c r with ⟨_, e⟩ | ⟨_, e⟩ <;> simp [e]

@[simp] theorem Decision.move_persistence (d : Decision) (next : ZoneState) (c : Cause) (r : Readings) :
    (d.move next c r).zone.persistence = d.zone.persistence := by
  rcases d.move_cases next c r with ⟨_, e⟩ | ⟨_, e⟩ <;> simp [e]

@[simp] theorem Decision.move_blind (d : Decision) (next : ZoneState) (c : Cause) (r : Readings) :
    (d.move next c r).zone.blind = d.zone.blind := by
  rcases d.move_cases next c r with ⟨_, e⟩ | ⟨_, e⟩ <;> simp [e]

@[simp] theorem Decision.move_active (d : Decision) (next : ZoneState) (c : Cause) (r : Readings) :
    (d.move next c r).zone.active = d.zone.active := by
  rcases d.move_cases next c r with ⟨_, e⟩ | ⟨_, e⟩ <;> simp [e]

/-- A decision without a change leaves the verdict queue, the notices and the ALERT line alone. -/
theorem State.applyDecision_still (s : State) (z : Fin 24) (r : Zone) :
    s.applyDecision z { zone := r, changes := [] } = s.setZone z r := by
  simp [State.applyDecision, State.setZone]

/-- An evaluation of a zone that is not enabled leaves everything as it is. -/
theorem State.evaluate_disabled {s : State} {z : Fin 24} (h : (s.zone z).enabled = false) :
    s.evaluate z = s.setZone z (s.zone z) := by
  simp [State.evaluate, Decision.evaluate, Zone.untouched, h, State.applyDecision_still]

theorem State.setZone_self (s : State) (z : Fin 24) : s.setZone z (s.zone z) = s := by
  simp [State.setZone, State.zone]

/-- A verdict queue without an entry of the zone grows by one; one with an entry keeps its length. -/
theorem queueVerdict_length (z : Fin 24) (now : Stamp) (q : List Verdict) (c : Change) :
    (queueVerdict z now q c).length = if q.any (fun v => v.zone == z) then q.length else q.length + 1 := by
  unfold queueVerdict
  split <;> simp

/-- The changes of a decision post CONDENSING, RISK and BLIND, each once and whatever their order. -/
theorem foldl_postEntered (z : Fin 24) (l : List Change) (n : NoticeSets) :
    l.foldl (postEntered z) n =
      { n with
        condensing := n.condensing ||| if (l.any fun c => c.toState == .condensing) = true then BitVec.twoPow 24 z else 0
        risk := n.risk ||| if (l.any fun c => c.toState == .risk) = true then BitVec.twoPow 24 z else 0
        blind := n.blind ||| if (l.any fun c => c.toState == .blind) = true then BitVec.twoPow 24 z else 0 } := by
  induction l generalizing n with
  | nil => simp
  | cons c l ih =>
    obtain ⟨_, next, _, _⟩ := c
    rw [List.foldl_cons, ih]
    cases next <;> simp [postEntered, NoticeSets.post] <;> split <;> simp [BitVec.or_assoc]

/-- Ending a duty clears `driven` or changes nothing. -/
theorem Output.endDuty_cases (o : Output) (now : Stamp) :
    (o.enabled = true ∧ o.driven = true ∧ o.inDuty now = false ∧ o.endDuty now = { o with driven := false }) ∨
      ((o.enabled = false ∨ o.driven = false ∨ o.inDuty now = true) ∧ o.endDuty now = o) := by
  unfold Output.endDuty
  cases o.enabled <;> cases o.driven <;> cases o.inDuty now <;> simp

/-- With no zone to look at, no flag is recomputed. -/
@[simp] theorem State.recomputeFlags_nil (s : State) : s.recomputeFlags [] = s := rfl

end Sys2Proof.Machine
end

