-- ==== Sys2Proof/Tests/Slice0.lean ====
section
/-! SUPPORT. Checks of our own: well-formedness, payloads, single steps whose expected values are the spec's worked ones, and for
every statement with hypotheses a state that meets them. -/

namespace Sys2Proof.Tests

-- One test at a time: elaborated all at once, their threads pass the memory limit of the check.
set_option Elab.async false

open Sys2Proof Sys2Proof.Machine Sys2Proof.Slice0

/-! ## Helpers -/

/-- The state a command leaves. -/
def ran (c : Instr) (s : State) : State :=
  match exec c s with
  | .next t => t
  | _ => s

/-- The part at a counter value. -/
def counting (n : Nat) (s : State) : State := { s with counter := BitVec.ofNat 24 n }

/-- The part with its station transmitter busy on a frame, so that nothing else leaves. -/
def busy (s : State) : State := { s with stationTx := { sender := .sending [0x60, 1, 0, 0] 1, data := 0, strobe := false, ack := true, owed := false } }

/-- The frame that is leaving on the station line. -/
def leavingFrame (s : State) : Frame :=
  match s.stationTx.sender with
  | .sending f _ => f
  | .idle => []

/-- Result and data of the RESPONSE that is leaving. -/
def reply (s : State) : List Nat := ((leavingFrame s).drop 4).dropLast.map BitVec.toNat

/-- Field bytes from numbers. -/
def bytes (l : List Nat) : List Byte := l.map (BitVec.ofNat 8)

/-- A SAMPLE frame. -/
def sample (address status codeA codeB : Nat) : Frame :=
  mkFrame 1 (BitVec.ofNat 8 address) (b8 status ++ b16 codeA ++ b16 codeB)

/-! ### The probes of "Surfaces of One Zone" (spec/03), and zone 7 of spec/06 and spec/07 -/

def load12 : ProbeLoad :=
  { address := 12, kind := .air, zone := 7, action := .forward, aLow := -4000, aHigh := 8500, aTrim := -2, bLow := 0
    bHigh := 10000, bTrim := -2, interval := 300, misses := 4, credit := 0 }

def load30 : ProbeLoad :=
  { address := 30, kind := .surface, zone := 7, action := .absorb, aLow := -4000, aHigh := 8500, aTrim := -1, bLow := 0
    bHigh := 0, bTrim := 0, interval := 300, misses := 3, credit := 0 }

def load31 : ProbeLoad :=
  { address := 31, kind := .water, zone := 7, action := .absorb, aLow := -4000, aHigh := 8500, aTrim := 0, bLow := 0
    bHigh := 0, bTrim := 0, interval := 600, misses := 2, credit := 200 }

/-- The table just loaded at count 20,000. -/
def loaded : State :=
  { State.reset with counter := 20000, probes := [load12.fresh 20000, load30.fresh 20000, load31.fresh 20000] }

/-- A live surface entry with a value. -/
def live (p : ProbeLoad) (t : Int) : ProbeEntry :=
  { load := p, state := .live, lastArrival := some 30000, lastValue := .value t, damaged := 0
    silence := some { time := 40000, due := false } }

/-- Zone 7 with thresholds W 300, K 100, H 50, P 600, I 600 and L 5, in a state. -/
def zone7 (state : ZoneState) : Zone :=
  { Zone.powerOn with
    enabled := true, lookahead := 5, state := state, trendDeadline := some { time := 31200, due := false } }

/-- A window holding one dew point. -/
def window (d : Int) : Vector Slot 8 := noSlots.set 7 (.valid 30640 d { time := 33640, due := false })

/-- The hall with zone 7 as given, probe 30 at 1460 and probe 31 at 1380, at a count. -/
def hall (n : Nat) (z : Zone) : State :=
  State.setZone { State.reset with counter := BitVec.ofNat 24 n, probes := [live load30 1460, live load31 1380] } 7 z

/-- Zone 7 in WATCH with persistence armed at 30,940 (spec/07, "the Risk State of Zone 7"). -/
def watching : Zone :=
  { zone7 .watch with
    slots := window 1300, top := 7
    persistence := some { arming := { time := 30940, due := false }, stamp := 30340, candidate := .risk } }

/-! ## Well-formedness -/

theorem test_wf_fields_too_long : WellFormed (.readTime (List.replicate 60 0)) = false := by decide
theorem test_wf_fields_longest : WellFormed (.readTime (List.replicate 59 0)) = true := by decide
theorem test_wf_unknown_listed : WellFormed (.unknownCommand [29]) = false := by decide
theorem test_wf_unknown_unlisted : WellFormed (.unknownCommand [30]) = true := by decide
theorem test_wf_unknown_long : WellFormed (.unknownCommand (30 :: List.replicate 60 0)) = false := by decide
theorem test_wf_silence_zero : WellFormed (.silenceExpiry 0) = false := by decide
theorem test_wf_silence_high : WellFormed (.silenceExpiry 127) = false := by decide
theorem test_wf_restart_full_scope : WellFormed (.restartFull [1]) = false := by decide
theorem test_wf_restart_evaluation_scope : WellFormed (.restartEvaluation [2]) = false := by decide
theorem test_wf_read_form : WellFormed (.readNotices [0]) = false := by decide
theorem test_wf_peek_form : WellFormed (.peekNotices [1]) = false := by decide

/-! ## Payloads (R188) -/

theorem test_table_words : decodeTableWord 8 1 = none := rfl
theorem test_fetch_word : State.reset.withFetchWord 8 1 = State.reset := rfl
theorem test_payload_restart : Instr.ofPayload [2, 2] = .restartFull [2] := by decide
theorem test_payload_notices : Instr.ofPayload [28, 0] = .peekNotices [0] := by decide
theorem test_payload_curve_points : Instr.ofPayload [15, 0, 1, 2] = .curvePoints [0, 1, 2] := by decide
theorem test_payload_unlisted : Instr.ofPayload [200, 1] = .unknownCommand [200, 1] := by decide

/-! ## Time and resets -/

/-- R22: the counter wraps from 16,777,215 to 0. -/
theorem test_tick_wraps : (ran .tick (counting 16777215 State.reset)).counter = 0 := by decide +kernel

/-- R27: a trend expiry that no row has taken at 31,200 is taken by the TICK that ends the count. -/
theorem test_tick_takes_what_is_left :
    let t := ran .tick (hall 31200 { zone7 .risk with slots := window 1300, trendStart := some 1288 })
    (t.zone 7).slope = some 12 ∧ (t.zone 7).trendDeadline = some { time := 31800, due := false } ∧ t.counter = 31201 := by
  decide +kernel

/-- "Deadlines Across the Wrap" (spec/02). -/
theorem test_deadline_across_wrap : setDeadline 16777000 16776950 3000 = { time := 2734, due := false } := by decide +kernel

/-- "A Slot That Expires on Its Push" (spec/02). -/
theorem test_deadline_reached_at_once : (setDeadline 40130 40000 100).due = true := by decide +kernel

theorem test_power_on_straps : (ran (.powerOn 3) State.reset).ownAddress = 243 := by decide +kernel
theorem test_pin_reset_holds : (ran .pinReset State.reset).resetLow = true := by decide +kernel

theorem test_release_straps :
    (ran (.pinResetRelease 15) (ran .pinReset State.reset)).ownAddress = 255 ∧
      (ran (.pinResetRelease 15) (ran .pinReset State.reset)).resetLow = false := by decide +kernel

/-! ## The field line -/

theorem test_field_symbol_begins :
    (ran (.fieldSymbolArrival (mkSymbol 0x10 true)) State.reset).fieldAsm =
      .receiving { bytes := [0x10], len := none, damaged := false, addrParity := none, stamp := none } := by decide +kernel

/-- Arrival 9 of "a Damaged Frame and a Truncation" (spec/01): FIELD_PARITY, the assembler IDLE. -/
theorem test_field_symbol_damaged :
    let r : FrameRecord :=
      { bytes := [0x10, 15, 5, 0, 0, 0, 0, 0], len := some 5, damaged := true, addrParity := some false, stamp := none }
    let t := ran (.fieldSymbolArrival (mkSymbol 0 false)) { State.reset with fieldAsm := .receiving r }
    t.fieldAsm = .idle ∧ t.noticePending.line = 1 := by decide +kernel

theorem test_field_strobe_fall :
    (ran .fieldReceiveStrobeFall { State.reset with fieldRx := { strobe := true, ack := true } }).fieldRx =
      { strobe := false, ack := false } := by decide +kernel

theorem test_field_timeout :
    let r : FrameRecord := { bytes := [0x10], len := none, damaged := false, addrParity := none, stamp := none }
    let t := ran .fieldInterSymbolTimeout { State.reset with fieldAsm := .receiving r }
    t.fieldAsm = .idle ∧ t.noticePending.line = 8 := by decide +kernel

theorem test_field_acknowledged_last :
    (ran .fieldSymbolAcknowledged
      { State.reset with fieldTx := { sender := .sending [1, 2, 0, 253] 4, data := 0, strobe := true, ack := false, owed := false } }).fieldTx.sender
      = .idle := by decide +kernel

/-- R18, expiry first: the acknowledge that rises with the next frame's first symbol on the line acknowledges nothing. -/
theorem test_field_rise_after_abandonment :
    let s : State :=
      { State.reset with
        fieldOut := [[3, 4, 0, 249]]
        fieldTx := { sender := .sending [1, 2, 0, 253] 2, data := 0, strobe := true, ack := false, owed := false } }
    let t := ran .fieldSymbolAcknowledged (ran .fieldAllowanceExpiry s)
    t.fieldTx.sender = .sending [3, 4, 0, 249] 1 ∧ t.fieldTx.strobe = true ∧
      (ran .fieldSymbolAcknowledged (ran .fieldTransmitAckFall t)).fieldTx.sender = .sending [3, 4, 0, 249] 2 := by
  decide +kernel

theorem test_field_ack_fall_presents :
    (ran .fieldTransmitAckFall
      { State.reset with fieldTx := { sender := .sending [1, 2, 0, 253] 2, data := 0, strobe := false, ack := true, owed := false } }).fieldTx
      = { sender := .sending [1, 2, 0, 253] 2, data := 0x002, strobe := true, ack := false, owed := false } := by decide +kernel

theorem test_field_stall :
    let t := ran .fieldAllowanceExpiry
      { State.reset with fieldTx := { sender := .sending [1, 2, 0, 253] 2, data := 0, strobe := true, ack := false, owed := false } }
    t.fieldTx.sender = .idle ∧ t.noticePending.line = 0x80 := by decide +kernel

/-! ## The classifier -/

/-- Count 20,150 of "Surfaces of One Zone" (spec/03): last value 1460, deadline 21,048. -/
theorem test_surface_sample :
    let t := ran .classifierTakeHead (counting 20150 { loaded with intake := [{ bytes := sample 30 0 1789 0, stamp := 20148 }] })
    (t.findProbe 30).map (fun e => (e.lastValue, e.silence)) =
      some (.value 1460, some { time := 21048, due := false }) := by decide +kernel

/-- Case 1 of "Worked Cases" (spec/04): the dew point 1300 is pushed into zone 7. -/
theorem test_air_sample :
    let s : State := { State.setZone loaded 7 (zone7 .blind) with intake := [{ bytes := sample 12 0 2048 2253, stamp := 20148 }] }
    ((ran .classifierTakeHead (counting 20150 s)).zone 7).dew = some 1300 := by decide +kernel

/-! ## The arithmetic: the worked cases of spec/04 -/

theorem test_case_two_up :
    (convertAir { mode := .up, masked := 14 } Curve.builtIn 0 0 load12 2048 2253).dew = some 1302 := by decide +kernel

theorem test_case_two_down :
    (convertAir { mode := .down, masked := 14 } Curve.builtIn 0 0 load12 2048 2253).dew = some 1298 := by decide +kernel

theorem test_case_three :
    let v := convertAir { mode := .up, masked := 14 } Curve.builtIn 0 0 { load12 with bTrim := 200 } 2048 4095
    v.dew = some 2250 ∧ v.sticky = 2 ∧ v.posted = 0 := by decide +kernel

/-! ## Zones and their expiries -/

theorem test_silence_expiry :
    let t := ran (.silenceExpiry 30) { State.reset with counter := 21350, probes := [{ live load30 1460 with silence := some { time := 21350, due := false } }] }
    (t.findProbe 30).map (fun e => (e.state, e.silence)) = some (.stale, none) ∧
      t.noticePending.probeLost = BitVec.twoPow 128 30 := by decide +kernel

/-- R26 and R120: a SURFACE sample that waited past its silence time finds the margin below K with P 0. Persistence expires directly
after it, before the silence expiry whose evaluation would have cancelled it. -/
theorem test_silence_after_persistence :
    let z : Zone := { zone7 .watch with active := { Thresholds.powerOn with p := 0 }, slots := window 1400 }
    let s : State :=
      { busy (hall 30700 z) with
        probes := [live load30 1700], intake := [{ bytes := sample 30 0 1789 0, stamp := 20000 }] }
    let t := ran (.silenceExpiry 30) (ran .classifierTakeHead s)
    t.verdicts.map (fun v => (v.fromState, v.toState, v.cause, v.readings.m)) = [(.watch, .risk, .persistence, some 60)] ∧
      (t.findProbe 30).map (·.state) = some .stale := by decide +kernel

theorem test_slot_expiry :
    ((ran (.slotExpiry 7 7) (hall 33640 { zone7 .risk with slots := window 1300 })).zone 7).slot 7 = .empty := by decide +kernel

/-- Count 31,200 of "Margin, Trend and Projection in Zone 7" (spec/06): slope 12, re-armed at 31,800, p 20. -/
theorem test_trend_expiry :
    let t := ran (.trendExpiry 7) (hall 31200 { zone7 .risk with slots := window 1300, trendStart := some 1288 })
    (t.zone 7).slope = some 12 ∧ (t.zone 7).trendDeadline = some { time := 31800, due := false } ∧
      (t.zone 7).projected (t.surfaceMin 7) = some 20 := by decide +kernel

/-- Count 30,940 of "the Risk State of Zone 7" (spec/07): WATCH → RISK, PERSISTENCE, with m 80, D 1300 and S 1380. -/
theorem test_persistence_expiry :
    let t := ran (.persistenceExpiry 7) (busy (hall 30940 watching))
    (t.zone 7).state = .risk ∧ t.noticePending.risk = 128 ∧ t.alert = true ∧
      t.verdicts =
        [{ zone := 7, fromState := .watch, toState := .risk, cause := .persistence
           readings := { m := some 80, d := some 1300, s := some 1380 }, stamp := 30940 }] := by decide +kernel

/-- Count 63,800 of "Wet Over Blind" (spec/07): CONDENSING → BLIND, BLIND. -/
theorem test_blind_expiry :
    let t := ran (.blindExpiry 7) (busy (hall 63800 { zone7 .condensing with blind := some { time := 63800, due := false } }))
    (t.zone 7).state = .blind ∧ t.noticePending.blind = 128 ∧ (t.zone 7).blind = none := by decide +kernel

/-- Step-down of count 32,700 (spec/07): m 160 takes RISK to WATCH and no further. -/
theorem test_evaluation_steps_down :
    ((zone7 .risk).untouched.evaluate 32700 (some 1460)).zone.state = .risk ∧
      ({ zone7 .risk with slots := window 1300 }.untouched.evaluate 32700 (some 1460)).zone.state = .watch := by decide +kernel

/-! ## Wet inputs and demand outputs -/

/-- The drip-tray contact of spec/08: mapped to zone 7 here, wet level low, Q 10, ON_WET. -/
def contact (state : WetState) (pin : Bool) (deadline : Deadline) : WetInput :=
  { pin := pin, zone := some 7, wetLevel := false, qualify := 10, selection := .onWet, state := state, deadline := deadline
    capture := 0 }

theorem test_wet_level_change :
    ((ran (.wetLevelChange 2 false) (State.setWetInput (counting 60490 State.reset) 2 (contact .dry true none))).wetInput 2)
      = contact .toWet false (some { time := 60500, due := false }) := by decide +kernel

theorem test_qualification_expiry :
    let t := ran (.qualificationExpiry 2)
      (State.setWetInput (hall 60500 (zone7 .risk)) 2 (contact .toWet false (some { time := 60500, due := false })))
    (t.wetInput 2).state = .wet ∧ (t.wetInput 2).capture = 60500 ∧ (t.zone 7).state = .condensing ∧
      t.noticePending.wet = 4 ∧ t.noticePending.condensing = 128 := by decide +kernel

/-- The reheat valve of spec/08. -/
def valve : Output :=
  { Output.powerOn 70000 with
    enabled := true, zones := 0x280, band := 400, period := 300, fallback := 150, periodInForce := 600, dutyInForce := 480
    boundary := some { time := 70600, due := false }, basis := .margin, w := some 80, driven := true }

/-- The boundary at 70,600 with w 120: period 300, duty 210. -/
theorem test_period_boundary :
    let s := State.setZone (hall 70600 { zone7 .risk with slots := window 1260 }) 9 Zone.powerOn
    let t := ran (.periodBoundary 1) (s.setOutput 1 valve)
    (t.output 1).dutyInForce = 210 ∧ (t.output 1).periodInForce = 300 ∧
      (t.output 1).boundary = some { time := 70900, due := false } := by decide +kernel

/-- The pin is high to 70,479 and low from 70,480; from 70,900 a duty of the whole period keeps it high through 71,200. -/
theorem test_output_level :
    let full : Output := { valve with start := 70900, periodInForce := 300, dutyInForce := 300 }
    (valve.pinHigh 70479 = true ∧ valve.pinHigh 70480 = false) ∧ full.pinHigh 71200 = true ∧
      ran (.dutyEnd 1) ((counting 71200 State.reset).setOutput 1 full) = (counting 71200 State.reset).setOutput 1 full := by
  decide +kernel

theorem test_duty_end :
    ((ran (.dutyEnd 1) ((counting 70479 State.reset).setOutput 1 valve)).output 1).driven = true ∧
      ((ran (.dutyEnd 1) ((counting 70480 State.reset).setOutput 1 valve)).output 1).driven = false := by decide +kernel

/-! ## The station line -/

/-- The final symbol of a READ TIME to the own address: the response carries the counter and leaves at once. -/
theorem test_station_symbol_command :
    let f := mkFrame 4 240 [1]
    let r : FrameRecord := { bytes := f.dropLast, len := some 1, damaged := false, addrParity := none, stamp := none }
    let t := ran (.stationSymbolArrival (mkSymbol (f.getD 4 0) false)) { counting 30940 State.reset with stationAsm := .receiving r }
    t.stationAsm = .idle ∧ t.stationRx.ack = true ∧ reply t = [0, 0, 120, 220] := by decide +kernel

/-- A frame for another address goes down the field line. -/
theorem test_station_symbol_passes :
    let f := mkFrame 2 9 []
    let r : FrameRecord := { bytes := f.dropLast, len := some 0, damaged := false, addrParity := none, stamp := none }
    (ran (.stationSymbolArrival (mkSymbol (f.getD 3 0) false)) { State.reset with stationAsm := .receiving r }).fieldTx.sender
      = .sending f 1 := by decide +kernel

theorem test_station_strobe_fall :
    (ran .stationReceiveStrobeFall { State.reset with stationRx := { strobe := true, ack := true } }).stationRx =
      { strobe := false, ack := false } := by decide +kernel

theorem test_station_timeout :
    let r : FrameRecord := { bytes := [0x40], len := none, damaged := false, addrParity := none, stamp := none }
    (ran .stationInterSymbolTimeout { State.reset with stationAsm := .receiving r }).noticePending.line = 0x800 := by
  decide +kernel

/-- "Four Verdicts and a Forwarded Frame" (spec/09): with the run at 4 the waiting frame goes and the run becomes 0. -/
theorem test_station_acknowledged_chooses :
    let v : Verdict :=
      { zone := 4, fromState := .blind, toState := .clear, cause := .restore, readings := { m := none, d := none, s := none }
        stamp := 0 }
    let t := ran .stationSymbolAcknowledged
      { State.reset with
        verdicts := [v], verdictRun := 4, forward := [mkFrame 2 9 []]
        stationTx := { sender := .sending [0x60, 1, 0, 0] 4, data := 0, strobe := true, ack := false, owed := false } }
    leavingFrame t = mkFrame 2 9 [] ∧ t.verdictRun = 0 ∧ t.verdicts = [v] := by decide +kernel

theorem test_station_ack_fall_presents :
    (ran .stationTransmitAckFall (busy State.reset)).stationTx.strobe = true := by decide +kernel

theorem test_station_stall : (ran .stationAllowanceExpiry (busy State.reset)).noticePending.line = 0x4000 := by decide +kernel

/-- "A Verdict" (spec/12): the seventeen bytes, check byte 95. -/
theorem test_verdict_frame :
    (markFrame { NoticeSets.none with risk := 128 }
      (verdictFrame 243
        { zone := 7, fromState := .watch, toState := .risk, cause := .persistence
          readings := { m := some 80, d := some 1300, s := some 1380 }, stamp := 30940 })).map BitVec.toNat =
      [107, 243, 13, 7, 3, 4, 2, 0, 80, 5, 20, 5, 100, 0, 120, 220, 95] := by decide +kernel

/-! ## Commands -/

theorem test_unknown_command : reply (ran (.unknownCommand [200, 7]) State.reset) = [1] := by decide +kernel
theorem test_unknown_empty : reply (ran (.unknownCommand []) State.reset) = [2] := by decide +kernel
theorem test_read_time : reply (ran (.readTime []) (counting 30940 State.reset)) = [0, 0, 120, 220] := by decide +kernel
theorem test_read_time_length : reply (ran (.readTime [0]) State.reset) = [2] := by decide +kernel

theorem test_restart_evaluation :
    let t := ran (.restartEvaluation [1]) { hall 50000 watching with sticky := 3 }
    t.sticky = 0 ∧ (t.zone 7).state = .blind ∧ (t.zone 7).dew = none ∧ (t.findProbe 30).map (·.state) = some .unseen := by
  decide +kernel

theorem test_restart_full :
    let t := ran (.restartFull [2]) (hall 50000 watching)
    t.probes = [] ∧ t.zone 7 = Zone.powerOn ∧ t.counter = 50000 := by decide +kernel

/-- Count 20,000 of "Surfaces of One Zone" (spec/03): probe 30's deadline is 20,900. -/
theorem test_load_probe :
    let t := ran (.loadProbe load30.field) (counting 20000 State.reset)
    reply t = [0, 1, 1] ∧ t.probes.map (fun e => (e.load, e.silence)) = [(load30, some { time := 20900, due := false })] := by
  decide +kernel

theorem test_load_probe_range : reply (ran (.loadProbe { load30 with address := 127 }.field) State.reset) = [3] := by
  decide +kernel

theorem test_drop_probe_absent : reply (ran (.dropProbe [9]) loaded) = [5] := by decide +kernel
theorem test_drop_probe : ((ran (.dropProbe [30]) loaded).probes.map (·.load.address)) = [12, 31] := by decide +kernel

theorem test_read_probe :
    (reply (ran (.readProbe [30]) { State.reset with probes := [live load30 1460] })).drop 22 =
      [1, 1, 0, 117, 48, 2, 5, 180, 0, 1, 0, 156, 64] := by decide +kernel

theorem test_list_probes : reply (ran (.listProbes [1]) loaded) = [0, 3, 2, 30, 31] := by decide +kernel

theorem test_set_zone :
    ((ran (.setZone (bytes [7, 0, 100, 0, 0, 0, 0, 0])) (hall 30640 watching)).zone 7).slot 7 =
      .valid 30640 1300 { time := 30740, due := false } := by decide +kernel

theorem test_set_zone_range : reply (ran (.setZone (bytes [7, 0, 99, 0, 0, 0, 0, 0])) State.reset) = [3] := by decide +kernel

theorem test_stage_thresholds :
    reply (ran (.stageThresholds (bytes [7, 1, 44, 0, 100, 0, 50, 0, 150])) State.reset) =
      [0, 7, 1, 44, 0, 100, 0, 50, 2, 88, 1, 44, 0, 100, 0, 50, 0, 150] := by decide +kernel

/-- Count 30,000 of spec/06 and spec/07: BLIND, the trend armed at 30,600, notice BLIND. -/
theorem test_enable_zone :
    let t := ran (.enableZone [7]) (counting 30000 State.reset)
    (t.zone 7).state = .blind ∧ (t.zone 7).trendDeadline = some { time := 30600, due := false } ∧
      t.noticePending.blind = 128 ∧ reply t = [0, 7, 1] := by decide +kernel

theorem test_disable_zone :
    let t := ran (.disableZone [7]) (busy (hall 31000 watching))
    (t.zone 7).state = .dormant ∧ (t.zone 7).persistence = none ∧ t.verdicts.map (·.cause) = [.disable] := by decide +kernel

theorem test_read_zone :
    ((reply (ran (.readZone [7]) (hall 30640 watching))).drop 27).take 10 = [3, 5, 20, 5, 100, 0, 80, 0, 80, 0] := by
  decide +kernel

theorem test_read_window :
    let l := reply (ran (.readWindow [7]) (hall 30640 watching))
    l.take 7 = [0, 7, 7, 11, 184, 5, 20] ∧ l.drop 49 = [1, 0, 119, 176, 5, 20] := by decide +kernel

theorem test_clear_window :
    let t := ran (.clearWindow [7]) (hall 30640 watching)
    reply t = [0, 7, 7, 1] ∧ (t.zone 7).dew = none ∧ (t.zone 7).top = 7 := by decide +kernel

/-- Step 2 and step 3 of "Loading a Twenty-Knot Curve" (spec/04). -/
theorem test_curve_begin_range : reply (ran (.curveBegin (bytes [0, 0, 1, 144, 32])) State.reset) = [3] := by decide +kernel
theorem test_curve_begin : reply (ran (.curveBegin (bytes [252, 24, 1, 44, 20])) State.reset) = [0, 1, 0] := by decide +kernel

/-- Step 1, and steps 6 and 7. -/
theorem test_curve_points_empty : reply (ran (.curvePoints (bytes [0, 0, 1])) State.reset) = [6] := by decide +kernel

theorem test_curve_points :
    let s : State := { State.reset with staging := .filling (-1000) 300 20 (List.range' 1 16) }
    reply (ran (.curvePoints (bytes [16, 0, 17, 0, 18, 0, 19, 0, 20, 0, 21])) s) = [6] ∧
      reply (ran (.curvePoints (bytes [16, 0, 17, 0, 18, 0, 19, 0, 20])) s) = [0, 2, 20] := by decide +kernel

/-- Steps 8 and 13. -/
theorem test_curve_commit_refused :
    reply (ran (.curveCommit []) { State.reset with staging := .full (-1000) 300 20 (List.range' 1 17 ++ [17, 19, 20]) }) =
      [7, 17] := by decide +kernel

theorem test_curve_commit :
    let t := ran (.curveCommit []) { State.reset with staging := .full (-1000) 300 20 (List.range' 1 20) }
    t.curve.top = 4700 ∧ t.staging = .empty := by decide +kernel

theorem test_restore_curve :
    (ran (.restoreCurve []) { State.reset with curve := { base := 0, step := 50, values := [1, 2] } }).curve = Curve.builtIn := by
  decide +kernel

theorem test_read_curve :
    reply (ran (.readCurve [12]) State.reset) = [0, 0, 0, 1, 144, 13, 12, 1, 43, 158, 0, 0] := by decide +kernel

theorem test_set_arithmetic :
    let t := ran (.setArithmetic (bytes [2, 1, 0, 1, 1])) { State.reset with sticky := 2 }
    t.arith = { mode := .up, masked := 13 } ∧ t.deferred = 2 := by decide +kernel

theorem test_set_arithmetic_range : reply (ran (.setArithmetic (bytes [3, 1, 0, 1, 1])) State.reset) = [3] := by decide +kernel
theorem test_read_arithmetic : reply (ran (.readArithmetic []) State.reset) = [0, 0, 14, 0, 0] := by decide +kernel

theorem test_clear_sticky :
    let t := ran (.clearSticky []) { State.reset with sticky := 3, deferred := 1 }
    t.sticky = 0 ∧ t.deferred = 0 := by decide +kernel

/-- Count 70,000 of "A Reheat Valve" (spec/08): duty 480 with w 80. -/
theorem test_set_output :
    let s := hall 70000 { zone7 .risk with slots := window 1300 }
    let t := ran (.setOutput (bytes [1, 1, 0, 2, 128, 1, 144, 2, 88, 0, 150, 0])) s
    (t.output 1).dutyInForce = 480 ∧ (t.output 1).boundary = some { time := 70600, due := false } ∧
      (t.output 1).pinHigh 70000 = true := by decide +kernel

/-- Count 70,700: MANUAL with duty 450 leaves the running period alone. -/
theorem test_set_output_mode :
    reply (ran (.setOutputMode (bytes [1, 1, 1, 194])) (State.reset.setOutput 1 valve)) =
      [0, 1, 1, 1, 194, 1, 224, 2] := by decide +kernel

theorem test_read_output :
    (reply (ran (.readOutput [1]) ((counting 70479 State.reset).setOutput 1 valve))).drop 28 = [0, 80, 1, 48, 0] := by
  decide +kernel

theorem test_set_wet_input :
    let t := ran (.setWetInput (bytes [2, 7, 0, 10, 1])) State.reset
    (t.wetInput 2).state = .dry ∧ (t.wetInput 2).zone = some 7 := by decide +kernel

theorem test_set_wet_input_range : reply (ran (.setWetInput (bytes [2, 7, 0, 10, 4])) State.reset) = [3] := by decide +kernel

theorem test_read_wet_inputs :
    (reply (ran (.readWetInputs []) State.reset)).take 14 = [0, 255, 1, 10, 3, 2, 1, 0, 0, 0, 0, 0, 0, 0] := by decide +kernel

theorem test_set_alert_range : reply (ran (.setAlert [4]) State.reset) = [3] := by decide +kernel

theorem test_set_alert :
    (ran (.setAlert [2]) (hall 30000 (zone7 .blind))).alert = true := by decide +kernel

/-- Steps 1 to 7 of the worked exchange (spec/11). -/
def exchange : State :=
  { State.reset with
    noticePending := { NoticeSets.none with risk := 128, probeLost := BitVec.twoPow 128 31, line := 8 } }

theorem test_read_notices : (ran (.readNotices [1]) exchange).noticeArmed = exchange.noticePending := by decide +kernel

theorem test_peek_notices :
    (ran (.peekNotices [0]) exchange).noticeArmed = NoticeSets.none ∧
      (leavingFrame (ran (.peekNotices [0]) exchange)).getD 0 0 = 0x5b := by decide +kernel

theorem test_acknowledge_notices :
    (ran (.acknowledgeNotices [])
      { State.reset with
        noticeArmed := exchange.noticePending
        noticePending :=
          { exchange.noticePending with
            condensing := 0x1000, probeLost := BitVec.twoPow 128 30 ||| BitVec.twoPow 128 31 } }).noticePending =
      { NoticeSets.none with condensing := 0x1000, probeLost := BitVec.twoPow 128 30 } := by decide +kernel

/-! ## Witnesses: a state and operands that meet the hypotheses of each statement, clause by clause -/

/-- A part that runs and has nothing due meets an event as it stands. -/
theorem meets_self {s : State} (low : s.resetLow = false) (h : s.settled = true) : s.meets s :=
  ⟨low, by simp [State.settle, h]⟩

/-- With the assembler IDLE and the slot empty it takes a command as it stands. -/
theorem hears_self {s : State} (low : s.resetLow = false) (h : s.settled = true) (asm : s.stationAsm = .idle)
    (empty : s.response = none) : s.hears s := by
  have e : s.settle = s := by simp [State.settle, h]
  refine ⟨low, by simp [e, asm, Assembler.holding], by simp [e, empty], ?_⟩
  rw [e, ← asm]

theorem reset_settled : State.reset.settled = true := by decide +kernel

/-- A record with `k` bytes of a frame that announces `n` payload bytes. -/
def part (k n : Nat) : FrameRecord :=
  { bytes := (bytes [16, 30, n]).take k ++ List.replicate (k - 3) 0, len := if 3 ≤ k then some n else none, damaged := false
    addrParity := if 2 ≤ k then some true else none, stamp := none }

/-- The part with its field assembler, or its station assembler, in a state. -/
def fieldIn (a : Assembler) : State := { State.reset with fieldAsm := a }
def stationIn (a : Assembler) : State := { State.reset with stationAsm := a }

/-- An unmarked and a marked symbol. -/
def plain (b : Byte) : Symbol := mkSymbol b false
def first (b : Byte) : Symbol := mkSymbol b true

theorem witness_EveryCommandAnswers :
    Instr.classifierTakeHead ≠ .tick ∧ Instr.classifierTakeHead ≠ .pinReset ∧
      (∀ a, Instr.classifierTakeHead ≠ .powerOn a) ∧ ∀ a, Instr.classifierTakeHead ≠ .pinResetRelease a := by
  simp

theorem witness_HeldPartTakesNoEvent :
    let s := ran .pinReset State.reset
    s.resetLow = true ∧ s.fieldRx.ack = false ∧ s.stationRx.ack = false ∧ (∀ a, Instr.tick ≠ .powerOn a) ∧
      ∀ a, Instr.tick ≠ .pinResetRelease a := by
  refine ⟨by decide +kernel, by decide +kernel, by decide +kernel, by simp, by simp⟩

theorem witness_TicksAndResets :
    State.reset.meets State.reset ∧ reachesNothing State.reset ∧ State.reset.resetLow = false ∧
      (ran .pinReset State.reset).resetLow = true := by
  refine ⟨meets_self rfl (by decide +kernel), ?_, rfl, by decide +kernel⟩
  unfold reachesNothing
  decide +kernel

/-- Base fresh and due at the boundary, base half a turn old, and a deadline one tick ahead. -/
theorem witness_DeadlineTestsAgree :
    let gone (now base : Stamp) := (now.toNat + 16777216 - base.toNat) % 16777216
    (gone 100 0 < 8388608 ∧ (setDeadline 100 0 100).due = true) ∧ ¬ gone 8388608 0 < 8388608 ∧
      (setDeadline 99 0 100).due = false := by decide +kernel

/-- A part with a qualification due at once. -/
def dueState : State := State.reset.setWetInput 2 (contact .toWet false (some { time := 0, due := true }))

theorem reset_waits : State.reset.NothingWaitsIdle := ⟨fun _ => ⟨rfl, rfl, rfl⟩, fun _ => rfl, fun _ h => nomatch h⟩

theorem witness_NothingStaysDue_settle : dueState.settled = false ∧ dueState.NothingWaitsIdle ∧ dueState.ProbeTableLawful := by
  refine ⟨by decide +kernel, reset_waits, by decide, by decide, by simp [dueState, State.setWetInput, State.reset], ?_⟩
  intro a h
  simp [dueState, State.setWetInput, State.reset, NoticeSets.none] at h

/-- Zone 7 with its persistence, or its blind grace, due at once; and a slot of zone 7, and probe 30's silence, so. -/
def persistenceDue : Zone :=
  { watching with
    persistence := some { arming := { time := 30340, due := true }, stamp := 30340, candidate := .risk } }
def blindDue : Zone := { zone7 .risk with blind := some { time := 30700, due := true } }
def slotDue : Zone := { zone7 .risk with slots := noSlots.set 7 (.valid 20000 1300 { time := 23000, due := true }) }
def silenceDue : ProbeEntry := { live load30 1460 with silence := some { time := 23000, due := true } }

/-- The part with one probe and zone 7 as given, at count 30,700. -/
def oneDue (e : ProbeEntry) (z : Zone) : State := State.setZone { counting 30700 State.reset with probes := [e] } 7 z

/-- Each kind of expiry due at once: the highest slot of its zone, persistence with a silence due beside it, and each with all
that comes before it calm. -/
theorem witness_NothingStaysDue_atOnce :
    (deadlineDue ((oneDue (live load30 1460) slotDue).slotDeadline 7 7) = true ∧
      (∀ y < (7 : Fin 24), zoneCalm (oneDue (live load30 1460) slotDue) y) ∧
      ∀ j < (7 : Fin 8), deadlineDue ((oneDue (live load30 1460) slotDue).slotDeadline 7 j) = false) ∧
    (((oneDue silenceDue persistenceDue).zone 7).persistence =
        some { arming := { time := 30340, due := true }, stamp := 30340, candidate := .risk } ∧
      ((oneDue silenceDue persistenceDue).zone 7).state = .watch ∧ slotsCalm (oneDue silenceDue persistenceDue) 7 ∧
      ∀ y < (7 : Fin 24), zoneCalm (oneDue silenceDue persistenceDue) y) ∧
    (deadlineDue ((oneDue silenceDue blindDue).zone 7).blind = true ∧
      ((oneDue silenceDue blindDue).zone 7).state.isLevel = true ∧ slotsCalm (oneDue silenceDue blindDue) 7 ∧
      deadlineDue ((oneDue silenceDue blindDue).persistenceDeadline 7) = false) ∧
    (deadlineDue (dueState.wetInput 2).deadline = true ∧ (dueState.wetInput 2).state = .toWet ∧
      (∀ z, zoneCalm dueState z) ∧ ∀ j < (2 : Fin 4), deadlineDue (dueState.wetInput j).deadline = false) ∧
    (oneDue silenceDue (zone7 .risk)).findProbe 30 = some silenceDue ∧ deadlineDue silenceDue.silence = true ∧
    (∀ z, zoneCalm (oneDue silenceDue (zone7 .risk)) z) ∧
    (∀ i, deadlineDue ((oneDue silenceDue (zone7 .risk)).wetInput i).deadline = false) ∧
    (∀ x ∈ (oneDue silenceDue (zone7 .risk)).probes, x.load.address.toNat < (30 : Byte).toNat →
      deadlineDue x.silence = false) ∧ nothingDue State.reset := by
  refine ⟨?_, ?_, ?_, ?_, ?_⟩ <;> decide +kernel

/-- P = 0: RISK is entered at once, before the silence that is due beside it (R26, R120). -/
theorem test_persistence_at_once :
    let t := State.settle (busy (oneDue silenceDue persistenceDue))
    t.verdicts.map (fun v => (v.fromState, v.toState, v.cause, v.readings.s)) = [(.watch, .risk, .persistence, some 1460)] ∧
      (t.findProbe 30).map (·.state) = some .stale ∧ t.noticePending.risk = 128 := by decide +kernel

/-- Every deadline ahead or disarmed, at count 30,641. -/
def ahead : State :=
  State.setOutput (State.setWetInput (hall 30641
    { watching with blind := some { time := 31000, due := false } }) 2 (contact .toWet false (some { time := 30650, due := false })))
    1 { valve with start := 30600, boundary := some { time := 31200, due := false } }

theorem witness_ExpiriesAwaitTheirDeadline :
    awaits ahead (fun t => t.silenceDeadline 30) ∧ awaits ahead (fun t => t.silenceDeadline 99) ∧
      awaits ahead (fun t => t.slotDeadline 7 7) ∧ deadlineDue (ahead.slotDeadline 7 7) = false ∧
      awaits ahead (fun t => (t.zone 7).trendDeadline) ∧
      awaits ahead (fun t => t.persistenceDeadline 7) ∧ awaits ahead (fun t => (t.zone 7).blind) ∧
      awaits ahead (fun t => (t.wetInput 2).deadline) ∧ awaits dueState (fun t => (t.wetInput 2).deadline) ∧
      awaits ahead (fun t => (t.output 1).boundary) := by
  unfold awaits
  decide +kernel

theorem witness_ExpiriesAwaitTheirDeadline_dutyEnd :
    ahead.meets ahead ∧ (ahead.output 0).enabled = false ∧ (ahead.output 0).driven = false ∧
      withinDuty (ahead.output 1) ahead.counter = true :=
  ⟨meets_self rfl (by decide +kernel), by decide +kernel, by decide +kernel, by decide +kernel⟩

/-- Count 31,200 with probe 30, zone 7, input 2 and output 1 as given. -/
def lone (e : ProbeEntry) (z : Zone) (c : WetInput) (o : Output) : State :=
  ((State.setZone { counting 31200 State.reset with probes := [e] } 7 z).setWetInput 2 c).setOutput 1 o

/-- A deadline at the count of `lone`. -/
def nowDue : Deadline := some { time := 31200, due := false }

/-- The pieces of `lone` with every deadline ahead. -/
def zoneAhead : Zone :=
  { zone7 .watch with
    slots := window 1300, trendDeadline := some { time := 31800, due := false }
    persistence := some { arming := { time := 31900, due := false }, stamp := 31300, candidate := .risk } }

def valveAhead : Output := { valve with start := 31000, boundary := some { time := 31600, due := false } }

/-- In each state one deadline is reached, and with that one disarmed none is. -/
theorem witness_ExpiriesAwaitTheirDeadline_left :
    (let s := lone { live load30 1460 with silence := nowDue } zoneAhead (contact .dry true none) valveAhead
     s.settled = true ∧ s.expires s (fun u => (u.silenceDeadline 30)) ∧
      s.findProbe 30 = some { live load30 1460 with silence := nowDue } ∧
      reachesNothing { s with probes := rewritten s.probes { live load30 1460 with silence := none } }) ∧
    (let s := lone (live load30 1460) { zoneAhead with slots := noSlots.set 7 (.valid 28200 1300 { time := 31200, due := false }) }
      (contact .dry true none) valveAhead
     s.settled = true ∧ s.expires s (fun u => (u.slotDeadline 7 7)) ∧
      reachesNothing (s.setZone 7 { s.zone 7 with slots := (s.zone 7).slots.set 7 .empty })) ∧
    (let s := lone (live load30 1460) { zoneAhead with trendDeadline := nowDue } (contact .dry true none) valveAhead
     s.settled = true ∧ s.expires s (fun u => (u.zone 7).trendDeadline) ∧
      reachesNothing (s.setZone 7 { s.zone 7 with trendDeadline := none })) ∧
    (let p : Persistence := { arming := { time := 31200, due := false }, stamp := 30600, candidate := .risk }
     let s := lone (live load30 1460) { zoneAhead with persistence := some p } (contact .dry true none) valveAhead
     s.settled = true ∧ s.expires s (fun u => (u.persistenceDeadline 7)) ∧
      reachesNothing (s.setZone 7 { s.zone 7 with persistence := none })) ∧
    (let s := lone (live load30 1460) { zoneAhead with persistence := none, blind := nowDue } (contact .dry true none) valveAhead
     s.settled = true ∧ s.expires s (fun u => (u.zone 7).blind) ∧
      reachesNothing (s.setZone 7 { s.zone 7 with blind := none })) ∧
    (let s := lone (live load30 1460) zoneAhead (contact .toWet false nowDue) valveAhead
     s.settled = true ∧ s.expires s (fun u => (u.wetInput 2).deadline) ∧
      reachesNothing (s.setWetInput 2 { s.wetInput 2 with deadline := none })) ∧
    (let s := lone (live load30 1460) zoneAhead (contact .dry true none)
      { valve with start := 30600, boundary := nowDue, driven := false }
     s.settled = true ∧ s.expires s (fun u => (u.output 1).boundary) ∧
      reachesNothing (s.setOutput 1 { s.output 1 with boundary := none })) ∧
    (let s := lone (live load30 1460) zoneAhead (contact .dry true none)
      { valve with start := 30720, boundary := some { time := 31320, due := false } }
     s.settled = true ∧ s.resetLow = false ∧ (s.output 1).enabled = true ∧ (s.output 1).driven = true ∧
      withinDuty (s.output 1) s.counter = false ∧ reachesNothing (s.setOutput 1 { s.output 1 with driven := false })) := by
  unfold reachesNothing State.expires State.meets
  refine ⟨?_, ?_, ?_, ?_, ?_, ?_, ?_, ?_⟩ <;> decide +kernel

/-! ### Receive pairs -/

theorem witness_symbols :
    (∀ a ∈ [Assembler.idle, .hunt, .receiving (part 1 0), .receiving (part 2 60), .receiving (part 3 1)],
      (fieldIn a).meets (fieldIn a) ∧ (fieldIn a).fieldRx.strobe = false ∧ (fieldIn a).fieldRx.ack = false ∧
        (stationIn a).meets (stationIn a) ∧ (stationIn a).stationRx.strobe = false ∧ (stationIn a).stationRx.ack = false) ∧
    (first 16).getLsbD 8 = true ∧ (plain 60).getLsbD 8 = false := by
  refine ⟨?_, by decide, by decide⟩
  intro a _
  exact ⟨meets_self rfl reset_settled, rfl, rfl, meets_self rfl reset_settled, rfl, rfl⟩

/-- The clauses on the record: positions 2 and 3, the longest length and one above it, and a middle position. -/
theorem witness_symbols_records :
    (part 1 0).bytes.length = 1 ∧ (part 2 60).bytes.length = 2 ∧ ((plain 60).extractLsb' 0 8).toNat ≤ 60 ∧
      60 < ((plain 61).extractLsb' 0 8).toNat ∧ (part 3 1).len = some 1 ∧ 3 ≤ (part 3 1).bytes.length ∧
      (part 3 1).bytes.length < 1 + 3 := by decide

/-- The last symbol of a frame of four: damaged, failing its sum, and good with five and with six frames waiting. -/
def lastOf (damaged : Bool) (waiting : Nat) : State :=
  { fieldIn (.receiving { part 3 0 with damaged := damaged }) with
    intake := List.replicate waiting { bytes := sample 30 0 0 0, stamp := 0 } }

theorem witness_FieldFrameCompletes :
    (∀ d n, (lastOf d n).resetLow = false ∧ (lastOf d n).fieldRx.strobe = false ∧ (lastOf d n).fieldRx.ack = false ∧
      (lastOf d n).fieldAsm = .receiving { part 3 0 with damaged := d }) ∧
    (lastOf false 6).meets (lastOf false 6) ∧ (plain 210).getLsbD 8 = false ∧ (part 3 0).len = some 0 ∧
    (part 3 0).bytes.length = 0 + 3 ∧ (extended { part 3 0 with damaged := true } (plain 210)).damaged = true ∧
    (extended (part 3 0) (plain 211)).damaged = false ∧ (extended (part 3 0) (plain 211)).bytes.foldl (· + ·) 0 ≠ 0 ∧
    (extended (part 3 0) (plain 210)).bytes.foldl (· + ·) 0 = 0 ∧ (lastOf false 5).intake.length < 6 ∧
    6 ≤ (lastOf false 6).intake.length := by
  refine ⟨fun _ _ => ⟨rfl, rfl, rfl, rfl⟩, meets_self rfl (by decide +kernel), ?_⟩
  decide +kernel

/-- A station frame one symbol short of its end, by its address and kind, with the response slot, the field-out queue and the
field transmitter as given. -/
def lastStation (kind address : Nat) (response : Option Frame) (out : List Frame) (sender : Sender) : State :=
  { stationIn (.receiving { part 3 0 with bytes := bytes [16 * kind, address, 0] }) with
    response := response, fieldOut := out, fieldTx := { sender := sender, data := 0, strobe := false, ack := false, owed := false } }

/-- The whole frame of `lastStation`. -/
def wholeStation (kind address : Nat) : FrameRecord :=
  extended { part 3 0 with bytes := bytes [16 * kind, address, 0] }
    (plain (checkByte (bytes [16 * kind, address, 0])))

theorem witness_StationFrameCompletes :
    (lastStation 4 240 none [] .idle).meets (lastStation 4 240 none [] .idle) ∧
    (∀ k a r o x, (lastStation k a r o x).stationRx.strobe = false ∧ (lastStation k a r o x).stationRx.ack = false) ∧
    (wholeStation 4 240).damaged = false ∧ (wholeStation 4 240).bytes.foldl (· + ·) 0 = 0 ∧
    (wholeStation 4 240).bytes.getD 1 0 = (lastStation 4 240 none [] .idle).ownAddress ∧
    ((wholeStation 4 240).bytes.getD 0 0).toNat / 16 = 4 ∧ ((wholeStation 2 240).bytes.getD 0 0).toNat / 16 ≠ 4 ∧
    (wholeStation 4 9).bytes.getD 1 0 ≠ (lastStation 4 9 none [] .idle).ownAddress ∧
    (lastStation 4 240 (some []) [] .idle).response.isSome = true ∧
    (lastStation 4 9 none [] .idle).fieldTx.sender = .idle ∧ (lastStation 4 9 none [] .idle).fieldOut = [] ∧
    (lastStation 4 9 none [[], [], []] (.sending [] 1)).fieldOut.length < 4 ∧
    (lastStation 4 9 none [[], [], []] (.sending [] 1)).fieldTx.sender ≠ .idle ∧
    4 ≤ (lastStation 4 9 none [[], [], [], []] (.sending [] 1)).fieldOut.length := by
  refine ⟨meets_self rfl (by decide +kernel), fun _ _ _ _ _ => ⟨rfl, rfl⟩, ?_⟩
  decide +kernel

theorem witness_StrobeFallsAndTimeouts :
    (fieldIn (.receiving (part 1 0))).meets (fieldIn (.receiving (part 1 0))) ∧
    (stationIn (.receiving (part 1 0))).meets (stationIn (.receiving (part 1 0))) ∧
    State.reset.meets State.reset ∧ (∀ r, State.reset.fieldAsm ≠ .receiving r) ∧
    (∀ r, State.reset.stationAsm ≠ .receiving r) ∧
    (fieldIn (.hold (part 3 0))).fieldAsm.holding = true ∧ (stationIn (.hold (part 3 0))).stationAsm.holding = true ∧
    (ran (.fieldSymbolArrival (first 16)) State.reset).fieldRx.strobe = true ∧
    (ran (.fieldSymbolArrival (first 16)) State.reset).fieldRx.ack = true := by
  refine ⟨meets_self rfl (by decide +kernel), meets_self rfl (by decide +kernel), meets_self rfl (by decide +kernel),
    nofun, nofun, rfl, rfl, by decide +kernel, by decide +kernel⟩

/-! ### Transmit pairs and the arbiter -/

/-- The part sending `f`'s symbol `p` on both transmit pairs. -/
def transmitting (f : Frame) (p : Nat) (strobe ack : Bool) : State :=
  let tx : Transmitter := { sender := .sending f p, data := 0, strobe := strobe, ack := ack, owed := false }
  { State.reset with fieldTx := tx, stationTx := tx }

/-- The last symbol presented, one frame waiting and, held on the station line, a frame for the field. -/
def crowded (held : Bool) : State :=
  { transmitting [1, 2, 0, 253] 4 true false with
    fieldOut := [[3, 4, 0, 249], [5], [6], [7]]
    stationAsm := if held then .hold { part 3 0 with bytes := bytes [32, 9, 0, 215] } else .idle }

theorem witness_transmitters :
    (∀ p st ack, (transmitting [1, 2, 0, 253] p st ack).resetLow = false) ∧
    (transmitting [1, 2, 0, 253] 3 true false).meets (transmitting [1, 2, 0, 253] 3 true false) ∧
    (3 < [1, 2, 0, 253].length ∧ [1, 2, 0, 253].length ≤ 4) ∧ (transmitting [1, 2, 0, 253] 4 true false).fieldOut = [] ∧
    (transmitting [1, 2, 0, 253] 2 false true).fieldTx.strobe = false ∧
    (transmitting [1, 2, 0, 253] 2 true false).fieldTx.strobe = true ∧ State.reset.fieldTx.sender = .idle ∧
    State.reset.fieldOut = [] := by
  refine ⟨fun _ _ _ => rfl, meets_self rfl (by decide +kernel), ?_⟩
  decide

/-- A part that owes the acknowledge of an abandoned symbol, with the next frame's first symbol on both lines. -/
def owing : State :=
  let tx : Transmitter :=
    { sender := .sending [3, 4, 0, 249] 1, data := mkSymbol 3 true, strobe := true, ack := false, owed := true }
  { State.reset with fieldTx := tx, stationTx := tx }

/-- With a queue, with a held frame for the field and with a held COMMAND; and an acknowledge owed. -/
theorem witness_FieldTransmitterSends_queue :
    (crowded false).meets (crowded false) ∧ (crowded true).meets (crowded true) ∧
    (crowded false).fieldTx.sender = .sending [1, 2, 0, 253] 4 ∧ (crowded true).fieldTx.owed = false ∧
    (let r : FrameRecord := { part 3 0 with bytes := mkFrame 4 240 [1] }
     let s : State := { crowded false with stationAsm := .hold r, response := some [80, 240, 0, 0] }
     s.meets s ∧ s.fieldTx.sender ≠ .idle) ∧
    owing.meets owing ∧ owing.fieldTx.owed = true ∧ owing.fieldTx.ack = false ∧ owing.fieldTx.sender ≠ .idle ∧
    owing.stationTx.owed = true ∧ owing.stationTx.ack = false ∧ owing.stationTx.sender ≠ .idle ∧
    (State.reset.fieldTx.owed = false ∧ State.reset.stationTx.ack = false ∧ State.reset.stationTx.sender = .idle) := by
  refine ⟨meets_self rfl (by decide +kernel), meets_self rfl (by decide +kernel), rfl, rfl,
    ⟨meets_self rfl (by decide +kernel), by decide⟩, meets_self rfl (by decide +kernel), ?_⟩
  decide

/-- A verdict entry of zone 4. -/
def verdict4 : Verdict :=
  { zone := 4, fromState := .blind, toState := .clear, cause := .restore, readings := { m := none, d := none, s := none }
    stamp := 0 }

/-- What the arbiter can find waiting. -/
def uplink (response : Option Frame) (verdicts : List Verdict) (run : Nat) (forward : List Frame) (a : Assembler) : State :=
  { stationIn a with response := response, verdicts := verdicts, verdictRun := run, forward := forward }

theorem witness_ArbiterChooses :
    (busy State.reset).stationTx.sender ≠ .idle ∧
    (uplink (some [80, 240, 0, 0]) [] 0 [] .idle).stationTx.sender = .idle ∧
    (uplink (some [80, 240, 0, 0]) [] 0 [] .idle).stationAsm.holding = false ∧
    (let r : FrameRecord := { part 3 0 with bytes := mkFrame 4 240 [1] }
     (uplink (some [80, 240, 0, 0]) [] 0 [] (.hold r)).stationAsm = .hold r ∧
      r.bytes.getD 1 0 = State.reset.ownAddress ∧ (r.bytes.getD 0 0).toNat / 16 = 4) ∧
    (let r : FrameRecord := { part 3 0 with bytes := mkFrame 2 9 [] }
     (uplink (some [80, 240, 0, 0]) [] 0 [] (.hold r)).stationAsm = .hold r ∧ r.bytes.getD 1 0 ≠ State.reset.ownAddress) ∧
    (uplink none [verdict4] 3 [[1]] .idle).verdictRun < 4 ∧ (uplink none [verdict4] 4 [] .idle).forward = [] ∧
    4 ≤ (uplink none [verdict4] 4 [[1]] .idle).verdictRun ∧ (uplink none [] 0 [[1]] .idle).verdicts = [] ∧
    (State.reset.response = none ∧ State.reset.verdicts = [] ∧ State.reset.forward = []) := by
  decide

theorem witness_OutgoingFramesAreMarked :
    ([1, 2, 3] : List Byte) ≠ [] ∧ (∀ c, kindPending NoticeSets.none c = false) ∧ kindPending exchange.noticePending 3 = true ∧
      ∀ d < 3, kindPending exchange.noticePending d = false := by
  refine ⟨by decide, ?_, by decide, by decide⟩
  intro c
  unfold kindPending
  split <;> simp [NoticeSets.none]

/-! ### The classifier -/

/-- `loaded` with a frame at the head of the intake queue and `n` frames in the forward queue. -/
def withHead (f : Frame) (n : Nat) : State :=
  { counting 20150 loaded with
    intake := [{ bytes := f, stamp := 20148 }], forward := List.replicate n [1, 2, 3, 250] }

theorem witness_ClassifierForwardsOrWaits :
    State.reset.meets State.reset ∧ State.reset.intake = [] ∧ (withHead (sample 99 0 0 0) 7).meets (withHead (sample 99 0 0 0) 7) ∧
    ((mkFrame 2 30 []).getD 0 0).toNat / 16 ≠ 1 ∧ loaded.findProbe ((sample 99 0 0 0).getD 1 0) = none ∧
    (withHead (sample 99 0 0 0) 7).forward.length < 8 ∧ (withHead (sample 99 0 0 0) 7).fieldAsm.holding = false ∧
    8 ≤ (withHead (sample 12 0 0 0) 8).forward.length ∧
    (∀ e, loaded.findProbe ((sample 12 0 0 0).getD 1 0) = some e → e.load.action = .forward) := by
  refine ⟨meets_self rfl (by decide +kernel), rfl, meets_self rfl (by decide +kernel), by decide, by decide, by decide, rfl,
    by decide, ?_⟩
  intro e h
  have : loaded.findProbe ((sample 12 0 0 0).getD 1 0) = some (load12.fresh 20000) := by decide +kernel
  rw [this] at h
  cases h
  rfl

theorem witness_ClassifierForwardsOrWaits_held :
    let r : FrameRecord := { part 3 0 with stamp := some 20149 }
    let t : State := { withHead (sample 99 0 0 0) 7 with fieldAsm := .hold r }
    t.meets t ∧ t.fieldAsm = .hold r ∧ r.stamp = some 20149 :=
  ⟨meets_self rfl (by decide +kernel), rfl, rfl⟩

theorem witness_SurfaceSampleSetsTheValue :
    let s := withHead (sample 30 0 1789 0) 8
    s.meets s ∧ sampleReady s { bytes := sample 30 0 1789 0, stamp := 20148 } [] (load30.fresh 20000) ∧
      ((sample 30 0 1789 0).getD 2 0).toNat = 5 ∧ 8 ≤ (sample 30 0 1789 0).length ∧ load30.kind ≠ .air := by
  refine ⟨meets_self rfl (by decide +kernel), ?_⟩
  unfold sampleReady
  decide +kernel

theorem witness_AirSamplePushes :
    let s := withHead (sample 12 0 2048 2253) 7
    s.meets s ∧ sampleReady s { bytes := sample 12 0 2048 2253, stamp := 20148 } [] (load12.fresh 20000) ∧
      ((sample 12 0 2048 2253).getD 2 0).toNat = 5 ∧ 8 ≤ (sample 12 0 2048 2253).length ∧ load12.kind = .air ∧
      payloadByte (sample 12 0 2048 2253) 0 = 0 ∧ payloadByte (sample 12 9 0 0) 0 ≠ 0 ∧
      (convertAir s.arith s.curve s.sticky s.deferred load12 2048 2253).dew = some 1300 ∧
      (convertAir s.arith s.curve s.sticky s.deferred load12 0 2253).dew = none := by
  refine ⟨meets_self rfl (by decide +kernel), ?_⟩
  unfold sampleReady
  decide +kernel

/-- The same heads with a frame held behind them. -/
theorem witness_samples_held :
    let r : FrameRecord := { part 3 0 with stamp := some 20149 }
    let s (f : Frame) : State := { withHead f 7 with fieldAsm := .hold r }
    (∀ f, (s f).resetLow = false ∧ (s f).fieldAsm.holding = true) ∧
      (s (sample 30 0 1789 0)).meets (s (sample 30 0 1789 0)) ∧
      sampleReady (s (sample 30 0 1789 0)) { bytes := sample 30 0 1789 0, stamp := 20148 } [] (load30.fresh 20000) ∧
      sampleReady (s (sample 12 0 2048 2253)) { bytes := sample 12 0 2048 2253, stamp := 20148 } [] (load12.fresh 20000) ∧
      sampleReady (s (mkFrame 1 30 [0, 0])) { bytes := mkFrame 1 30 [0, 0], stamp := 20148 } [] (load30.fresh 20000) := by
  refine ⟨fun _ => ⟨rfl, rfl⟩, meets_self rfl (by decide +kernel), ?_⟩
  unfold sampleReady
  decide +kernel

theorem witness_DamagedFramesCount :
    let f := mkFrame 1 30 [0, 0]
    (withHead f 8).meets (withHead f 8) ∧
      sampleReady (withHead f 8) { bytes := f, stamp := 20148 } [] (load30.fresh 20000) ∧ (f.getD 2 0).toNat ≠ 5 ∧
      loaded.findProbe 99 = none ∧ loaded.findProbe 30 = some (load30.fresh 20000) := by
  refine ⟨meets_self rfl (by decide +kernel), ?_⟩
  unfold sampleReady
  decide +kernel

/-! ### Expiries -/

/-- An expiry that its counter has reached. -/
theorem expires_self {s : State} {d : State → Deadline} (low : s.resetLow = false) (h : s.settled = true)
    (there : deadlineExpired (d s) s.counter = true) : s.expires s d :=
  ⟨meets_self low h, there⟩

/-- Every deadline at its count: 31,200. -/
def reachedAll : State :=
  lone { live load30 1460 with silence := nowDue }
    { watching with
      slots := noSlots.set 7 (.valid 28200 1300 { time := 31200, due := false }), blind := nowDue
      persistence := some { arming := { time := 31200, due := false }, stamp := 30600, candidate := .risk } }
    (contact .toWet false nowDue) { valve with start := 30600, boundary := nowDue }

theorem witness_DeadlineExpiries :
    reachedAll.expires reachedAll (fun u => u.silenceDeadline 30) ∧ reachedAll.findProbe 30 = some { live load30 1460 with silence := nowDue } ∧
      reachedAll.expires reachedAll (fun u => u.slotDeadline 7 7) ∧
      reachedAll.expires reachedAll (fun u => (u.zone 7).trendDeadline) ∧
      (reachedAll.zone 7).trendDeadline = some { time := 31200, due := false } := by
  refine ⟨expires_self rfl ?_ ?_, ?_, expires_self rfl ?_ ?_, expires_self rfl ?_ ?_, ?_⟩ <;> decide +kernel

/-- A slot that R26 makes due at once, and one that is not. -/
theorem witness_DeadlineExpiries_slots :
    let s := hall 30700 { zone7 .risk with slots := noSlots.set 7 (.valid 20000 1300 { time := 23000, due := true }) }
    s.resetLow = false ∧ deadlineDue (s.slotDeadline 7 7) = true ∧ deadlineDue (reachedAll.slotDeadline 7 7) = false := by
  decide +kernel

theorem witness_RiskDeadlinesExpire :
    reachedAll.expires reachedAll (fun u => u.persistenceDeadline 7) ∧
      (reachedAll.zone 7).persistence =
        some { arming := { time := 31200, due := false }, stamp := 30600, candidate := .risk } ∧
      (reachedAll.zone 7).state = .watch ∧ reachedAll.expires reachedAll (fun u => (u.zone 7).blind) ∧
      (reachedAll.zone 7).state.isLevel = true := by
  refine ⟨expires_self rfl ?_ ?_, ?_, ?_, expires_self rfl ?_ ?_, ?_⟩ <;> decide +kernel

theorem witness_WetContactsQualify :
    let s (c : WetState) (pin : Bool) := State.setWetInput State.reset 2 (contact c pin none)
    (∀ c pin, (s c pin).resetLow = false) ∧ (s .dry true).meets (s .dry true) ∧
      ((s .dry true).wetInput 2).pin ≠ false ∧ false = ((s .dry true).wetInput 2).wetLevel ∧
      ((s .toWet false).wetInput 2).pin ≠ true ∧ true ≠ ((s .toWet false).wetInput 2).wetLevel ∧
      reachedAll.expires reachedAll (fun u => (u.wetInput 2).deadline) ∧ (reachedAll.wetInput 2).state = .toWet ∧
      (reachedAll.wetInput 2).selection = .onWet := by
  refine ⟨fun _ _ => rfl, meets_self rfl ?_, ?_, ?_, ?_, ?_, expires_self rfl ?_ ?_, ?_, ?_⟩ <;> decide +kernel

theorem witness_OutputPeriodsRun :
    reachedAll.expires reachedAll (fun u => (u.output 1).boundary) ∧ reachedAll.meets reachedAll ∧
      (reachedAll.output 1).boundary = some { time := 31200, due := false } ∧
      (reachedAll.output 1).enabled = true ∧ (reachedAll.output 1).driven = true ∧
      withinDuty (reachedAll.output 1) reachedAll.counter = false := by
  refine ⟨expires_self rfl ?_ ?_, meets_self rfl ?_, ?_⟩ <;> decide +kernel

/-- The duty's cases: MANUAL; CONDENSING in the set; no known margin; the smallest margin 80. -/
theorem witness_DutyFollowsTheSmallestMargin :
    ({ valve with mode := .manual } : Output).mode = .manual ∧ valve.mode = .auto ∧ valve.zones.getLsbD 7 = true ∧
      ((hall 1 (zone7 .condensing)).zone 7).state = .condensing ∧
      (∀ z : Fin 24, valve.zones.getLsbD z = true → ((hall 1 watching).zone z).state ≠ .condensing) ∧
      (hall 1 watching).marginNow 7 = some 80 ∧ (hall 1 (zone7 .blind)).marginNow 7 = none ∧
      (0 : Int) < 80 ∧ (80 : Int) < valve.band := by
  decide +kernel

/-! ### Commands -/

theorem reset_hears : State.reset.hears State.reset := hears_self rfl (by decide +kernel) rfl rfl

theorem witness_CommandFramesRunTheirRow :
    let full : State := { busy State.reset with response := some [80, 240, 0, 0] }
    let held : State := stationIn (.hold (part 3 0))
    State.reset.hears State.reset ∧
      (full.resetLow = false ∧ full.settle.stationAsm.holding = false ∧ full.settle.response.isSome = true) ∧
      (held.resetLow = false ∧ held.settle.stationAsm.holding = true) :=
  ⟨reset_hears, by decide +kernel, by decide +kernel⟩

/-- The shortest and the longest CURVE POINTS and their neighbours; codes 0, 29, 30 and 255. -/
theorem witness_WrongLengthsAndCodesAreRefused :
    State.reset.hears State.reset ∧ lengthAllowed 15 3 = false ∧ lengthAllowed 15 4 = true ∧ lengthAllowed 15 34 = true ∧
      lengthAllowed 15 36 = false ∧ lengthAllowed 29 2 = false ∧ lengthAllowed 1 1 = true ∧
      ((0 : Byte).toNat = 0 ∧ 30 ≤ (30 : Byte).toNat ∧ 30 ≤ (255 : Byte).toNat) :=
  ⟨reset_hears, by decide⟩

theorem witness_RefusedCommandsChangeNothing :
    (commandAnswer 9 [24] State.reset).result ≠ .done ∧
      (commandAnswer 16 [] { State.reset with staging := .full 0 400 2 [5, 5] }).result = .curve := by decide +kernel

/-- Reads at the bounds of their operands. -/
theorem witness_ReadsOfTimeTablesAndCurve :
    loaded.hears loaded ∧ loaded.findProbe 126 = none ∧ loaded.findProbe 30 = some (load30.fresh 20000) ∧
      126 < (127 : Byte).toNat ∧ (95 : Byte).toNat ≤ 95 ∧ 95 < (96 : Byte).toNat ∧ (31 : Byte).toNat ≤ 31 ∧
      31 < (32 : Byte).toNat :=
  ⟨hears_self rfl (by decide +kernel) rfl rfl, by decide +kernel⟩

theorem witness_ReadsOfZonesAndUnits :
    (hall 1 watching).hears (hall 1 watching) ∧ 24 ≤ (24 : Byte).toNat ∧ 4 ≤ (4 : Byte).toNat :=
  ⟨hears_self rfl (by decide +kernel) rfl rfl, by decide, by decide⟩

theorem lawful_table {s : State} (n : s.probes.length ≤ 96)
    (sorted : (s.probes.map fun e => e.load.address.toNat).Pairwise (· < ·)) (entries : ∀ e ∈ s.probes, e.Lawful)
    (lost : s.noticePending.probeLost = 0) : s.ProbeTableLawful :=
  ⟨n, sorted, entries, fun a h => by simp [lost] at h⟩

/-- The states with one expiry left hold one probe each, and nothing waits in them. -/
theorem witness_ExpiriesAwaitTheirDeadline_left_laws :
    (∀ e z c o, (lone e z c o).NothingWaitsIdle) ∧ ∀ e z c o, e.Lawful → (lone e z c o).ProbeTableLawful := by
  refine ⟨fun _ _ _ _ => ⟨fun _ => ⟨rfl, rfl, rfl⟩, fun _ => rfl, fun _ h => nomatch h⟩, fun e _ _ _ h => ?_⟩
  refine lawful_table (show 1 ≤ 96 by decide) (List.pairwise_singleton _ _) (fun x m => ?_) rfl
  obtain rfl : x = e := by simpa [lone, State.setOutput, State.setWetInput, State.setZone] using m
  exact h

theorem witness_NothingStaysDue_atOnce_laws :
    (∀ e z, (oneDue e z).NothingWaitsIdle) ∧ ∀ e z, e.Lawful → (oneDue e z).ProbeTableLawful := by
  refine ⟨fun _ _ => ⟨fun _ => ⟨rfl, rfl, rfl⟩, fun _ => rfl, fun _ h => nomatch h⟩, fun e _ h => ?_⟩
  refine lawful_table (show 1 ≤ 96 by decide) (List.pairwise_singleton _ _) (fun x m => ?_) rfl
  obtain rfl : x = e := by simpa [oneDue, State.setZone] using m
  exact h

theorem witness_ExpiriesAwaitTheirDeadline_left_probes :
    (live load30 1460).Lawful ∧ ({ live load30 1460 with silence := nowDue } : ProbeEntry).Lawful ∧ silenceDue.Lawful := by
  unfold ProbeEntry.Lawful
  decide +kernel

theorem loaded_lawful : loaded.ProbeTableLawful := by
  refine lawful_table (by decide) (by decide) ?_ rfl
  intro e h
  unfold ProbeEntry.Lawful
  simp only [loaded, List.mem_cons, List.not_mem_nil, or_false] at h
  rcases h with rfl | rfl | rfl <;> decide +kernel

/-- LOAD PROBE's fields with every value at a bound, and one beyond; a new and a tabled address. -/
theorem witness_ProbeEntriesAreLoadedAndDropped :
    loaded.hears loaded ∧ loaded.ProbeTableLawful ∧ loadInRange load30.field ∧ load30.field.length = 21 ∧
      loadInRange { load31 with address := 126, zone := 23, aTrim := 500, interval := 6000, misses := 15, credit := 1000 }.field ∧
      ¬ loadInRange { load31 with credit := 1001 }.field ∧ ¬ loadInRange { load30 with address := 0 }.field ∧
      loaded.findProbe 126 = none ∧ loaded.probes.length < 96 ∧ loaded.findProbe 30 = some (load30.fresh 20000) := by
  refine ⟨hears_self rfl (by decide +kernel) rfl rfl, loaded_lawful, ?_, ?_, ?_, ?_, ?_, ?_⟩
  · unfold loadInRange
    decide +kernel
  · decide
  · unfold loadInRange
    decide +kernel
  · unfold loadInRange
    decide +kernel
  · unfold loadInRange
    decide +kernel
  · decide +kernel

/-- A full table, for FULL. -/
def fullTable : State :=
  { State.reset with
    probes := (List.range 96).map fun k => ({ load30 with address := BitVec.ofNat 8 (k + 1) } : ProbeLoad).fresh 0 }

theorem witness_ProbeEntriesAreLoadedAndDropped_full :
    fullTable.hears fullTable ∧ fullTable.ProbeTableLawful ∧ fullTable.findProbe 126 = none ∧ fullTable.probes.length = 96 := by
  refine ⟨hears_self rfl (by decide +kernel) rfl rfl, lawful_table (by decide +kernel) (by decide +kernel) ?_ rfl, ?_⟩
  · unfold ProbeEntry.Lawful
    decide +kernel
  · decide +kernel

theorem hall_hears (n : Nat) (z : Zone) (h : (hall n z).settled = true) : (hall n z).hears (hall n z) := hears_self rfl h rfl rfl

/-- SET ZONE and STAGE THRESHOLDS at their bounds. -/
theorem witness_ZoneSettingsAreWritten :
    (hall 30641 watching).hears (hall 30641 watching) ∧
    (let f := bytes [23, 140, 160, 23, 112, 15, 23, 112]
     f.length = 8 ∧ u8 f 0 = (23 : Fin 24) ∧ u16 f 1 = 36000 ∧ u16 f 3 = 6000 ∧ u8 f 5 = 15 ∧ u16 f 6 = 6000) ∧
    (let f := bytes [7, 0, 100, 0, 0, 0, 0, 0]
     f.length = 8 ∧ u8 f 0 = (7 : Fin 24) ∧ u16 f 1 = 100 ∧ u16 f 3 = 0) ∧
    (let f := bytes [7, 11, 184, 11, 183, 1, 244, 140, 160]
     f.length = 9 ∧ u16 f 1 = 3000 ∧ u16 f 3 = 2999 ∧ u16 f 5 = 500 ∧ u16 f 7 = 36000) :=
  ⟨hall_hears _ _ (by decide +kernel), by decide +kernel⟩

theorem witness_ZonesAreEnabledDisabledAndCleared :
    (hall 1 watching).hears (hall 1 watching) ∧ ((hall 1 watching).zone 7).enabled = true ∧
      ((hall 1 watching).zone 7).state ≠ .dormant ∧ ((hall 1 watching).zone 23).enabled = false ∧
      ((hall 1 watching).zone 23).state = .dormant ∧ ((hall 1 watching).zone 23).wet = false ∧
      (hall 1 { Zone.powerOn with wet := true }).hears (hall 1 { Zone.powerOn with wet := true }) ∧
      ((hall 1 { Zone.powerOn with wet := true }).zone 7).wet = true := by
  refine ⟨hall_hears _ _ (by decide +kernel), ?_, ?_, ?_, ?_, ?_, hall_hears _ _ (by decide +kernel), ?_⟩ <;> decide +kernel

/-- CURVE BEGIN with its top knot at 8500 and one step above; the staging states and a step out of order. -/
theorem witness_CurvesAreLoaded :
    State.reset.hears State.reset ∧ (-4000 : Int) + ((26 : Int) - 1) * 500 = 8500 ∧
    (let f := bytes [240, 96, 1, 244, 26]
     f.length = 5 ∧ s16 f 0 = -4000 ∧ u16 f 2 = 500 ∧ u8 f 4 = 26) ∧
    State.reset.staging.code ≠ 1 ∧ (Staging.filling 0 400 2 [5]).code ≠ 2 ∧
    [611, 813].Pairwise (· < ·) ∧ (1 < [5, 5].length ∧ [5, 5].getD 1 0 ≤ [5, 5].getD (1 - 1) 0) :=
  ⟨reset_hears, by decide +kernel⟩

theorem witness_CurvesAreLoaded_filling :
    let s : State := { State.reset with staging := .filling 0 400 3 [611] }
    s.hears s ∧ s.staging = .filling 0 400 3 [611] ∧ (1 : Byte).toNat = [611].length ∧ 1 + [813].length < 3 ∧
      1 + [813, 1071].length = 3 ∧ 3 < 1 + [813, 1071, 1400].length ∧ 0 ∉ [813, 1071] :=
  ⟨hears_self rfl (by decide +kernel) rfl rfl, by decide⟩

theorem witness_ArithmeticIsSetAndCleared :
    State.reset.hears State.reset ∧ (bytes [3, 0, 0, 0, 0]).length = 5 ∧ 2 < u8 (bytes [3, 0, 0, 0, 0]) 0 ∧
      1 < u8 (bytes [0, 0, 0, 0, 2]) 4 :=
  ⟨reset_hears, by decide⟩

/-- SET OUTPUT and SET OUTPUT MODE at their bounds, enabling, disabling and neither. -/
theorem witness_OutputSettingsAreWritten :
    (State.reset.setOutput 1 valve).hears (State.reset.setOutput 1 valve) ∧
    (let f := bytes [3, 1, 0, 2, 128, 11, 184, 23, 112, 23, 112, 1]
     f.length = 12 ∧ u8 f 0 = (3 : Fin 4) ∧ u8 f 1 = 1 ∧ u16 f 5 = 3000 ∧ u16 f 7 = 6000 ∧ u16 f 9 = 6000 ∧ u8 f 11 = 1) ∧
    (let f := bytes [1, 0, 0, 0, 0, 0, 50, 0, 10, 0, 0, 0]
     f.length = 12 ∧ u8 f 1 = 0 ∧ u16 f 5 = 50 ∧ u16 f 7 = 10) ∧
    (let f := bytes [3, 1, 23, 112]
     f.length = 4 ∧ u16 f 2 = 6000) ∧
    ((State.reset.setOutput 1 valve).output 1).enabled = true ∧ ((State.reset.setOutput 1 valve).output 3).enabled = false :=
  ⟨hears_self rfl (by decide +kernel) rfl rfl, by decide +kernel⟩

theorem reset_flags : State.reset.WetFlagsTrue := by
  unfold State.WetFlagsTrue
  decide +kernel

theorem witness_WetInputSettingsAreWritten :
    State.reset.hears State.reset ∧ State.reset.WetFlagsTrue ∧
    (let f := bytes [3, 23, 1, 50, 3]
     f.length = 5 ∧ u8 f 0 = (3 : Fin 4) ∧ u8 f 1 = (23 : Fin 24) ∧ Selection.both.code = u8 f 4) ∧
    (let f := bytes [0, 255, 0, 0, 0]
     f.length = 5 ∧ u8 f 1 = 255 ∧ Selection.none.code = u8 f 4) ∧
    ¬ (u8 (bytes [0, 24, 0, 0, 0]) 1 < 24 ∨ u8 (bytes [0, 24, 0, 0, 0]) 1 = 255) :=
  ⟨reset_hears, reset_flags, by decide +kernel⟩

theorem witness_SetAlertReplacesTheSet :
    State.reset.hears State.reset ∧ (4 : Byte).getLsbD 2 = true ∧
      ∀ k, (0x3a : Byte).getLsbD k = true → k = 1 ∨ k = 3 ∨ k = 4 ∨ k = 5 := by
  refine ⟨reset_hears, by decide, ?_⟩
  intro k h
  have small : k < 8 := by
    by_contra big
    rw [BitVec.getLsbD_of_ge (0x3a : Byte) k (by omega)] at h
    exact absurd h (by decide)
  revert h
  interval_cases k <;> decide

/-- RESTORE CURVE, the notice commands and the restarts ask only that the part takes a command. -/
theorem witness_commands_heard :
    State.reset.hears State.reset ∧ exchange.hears exchange ∧ (hall 1 watching).hears (hall 1 watching) ∧
      1 < (2 : Byte).toNat ∧ (3 : Byte).toNat ≠ 1 ∧ (3 : Byte).toNat ≠ 2 :=
  ⟨reset_hears, hears_self rfl (by decide +kernel) rfl rfl, hall_hears _ _ (by decide +kernel), by decide⟩

/-- A payload of each outcome: allowed and refused lengths, codes at the bounds, and refusals with and without a data byte. -/
theorem witness_ResponsesFitAFrame :
    lengthAllowed 1 1 = true ∧ lengthAllowed 29 1 = true ∧ lengthAllowed 29 2 = false ∧
      ((0 : Byte).toNat = 0 ∧ 30 ≤ (30 : Byte).toNat) ∧
      (commandAnswer 9 [24] State.reset).result.code = 3 ∧
      (commandAnswer 16 [] { State.reset with staging := .full 0 400 2 [5, 5] }).result.code = 7 := by decide +kernel

/-! ### Arithmetic and risk -/

theorem builtIn_lawful : Curve.builtIn.Lawful := by
  unfold Curve.Lawful spanLawful
  decide +kernel

/-- The bottom, a middle and the top of the built-in curve's span; the bounds of RH; a divisor. -/
theorem witness_PressuresAreInterpolated :
    Curve.builtIn.Lawful ∧ Curve.builtIn.base ≤ 0 ∧ (4800 : Int) ≤ Curve.builtIn.top ∧ (4800 : Int) = Curve.builtIn.top ∧
      5 + 2 ≤ Curve.builtIn.n ∧ (2000 : Int) = Curve.builtIn.knot 5 ∧ (0 : Int) ≤ 10000 ∧ 0 < 10000 ∧
      Curve.builtIn.es 0 ≤ 611 ∧ 611 ≤ Curve.builtIn.es (Curve.builtIn.n - 1) ∧
      11166 = Curve.builtIn.es (Curve.builtIn.n - 1) ∧ 2333 = Curve.builtIn.es 5 :=
  ⟨builtIn_lawful, by decide +kernel⟩

/-- Codes that stop at each stage with everything unmasked, and that pass each with everything masked: probe 12's temperature below
the span, its humidity above 10000 and below 0, and no vapour. -/
theorem witness_DewPointsStayInTheSpan :
    let bare : Arithmetic := { mode := .nearest, masked := 0 }
    let clamped : Arithmetic := { mode := .nearest, masked := 15 }
    let p : ProbeLoad := { load12 with bLow := -500, bHigh := 10500 }
    let air (a : Arithmetic) (codeA codeB : Nat) : Conversion := convertAir a Curve.builtIn 0 0 p codeA codeB
    Curve.builtIn.Lawful ∧ (convertAir Arithmetic.powerOn Curve.builtIn 0 0 load12 2048 2253).dew = some 1300 ∧
      (convertAir Arithmetic.powerOn Curve.builtIn 0 0 load12 0 2253).dew = none ∧
      (calibrateA .nearest p 0 < Curve.builtIn.base ∧ 10000 < calibrateB .nearest p 4095 ∧ calibrateB .nearest p 0 < 0) ∧
      (air bare 0 2048).sticky = 1 ∧ (air bare 2048 4095).sticky = 2 ∧ (air bare 2048 0).sticky = 4 ∧
      (air clamped 0 4095).sticky = 3 ∧ (air clamped 2048 0).sticky = 12 := by
  refine ⟨builtIn_lawful, ?_⟩
  decide +kernel

/-- Saturation at both ends, and the projection's clauses. -/
theorem witness_MarginsAreProjected :
    ((32767 : Int) < 40000 - 0 ∧ (0 : Int) - 40000 < -32767) ∧ marginOf (some 1380) watching.dew = some 80 ∧
      watching.slope = none ∧ ({ watching with slope := some 12 } : Zone).lookahead = 5 ∧ (0 : Int) < 12 ∧
      marginOf none watching.dew = none := by decide +kernel

theorem witness_CandidateFollowsTheThresholds :
    let t := Thresholds.powerOn
    ((0 : Int) ≤ 0 ∧ (99 : Int) < t.k ∧ (t.k : Int) ≤ 100 ∧ (299 : Int) < t.w ∧ (t.w : Int) ≤ 300 ∧ (t.k : Int) ≤ 300) ∧
      candidateOf t 99 99 = .risk := by decide

theorem witness_EvaluationDecidesByTheRiskSteps :
    watching.enabled = true ∧ watching.state ≠ .dormant ∧ ({ watching with wet := true } : Zone).wet = true ∧
      watching.wet = false ∧ marginOf none watching.dew = none ∧ marginOf (some 1380) watching.dew = some 80 ∧
      watching.projected (some 1380) = some 80 := by decide +kernel

/-- A DORMANT zone and an enabled one, and decisions with and without a change. -/
theorem witness_EvaluationDecidesByTheRiskSteps_part :
    ((hall 1 watching).zone 23).enabled = false ∧ ((hall 1 watching).zone 7).enabled = true ∧
      watching.untouched.changes = [] ∧
      ({ watching with wet := true }.untouched.evaluate 1 none).changes ≠ [] := by decide +kernel

/-- Count 31,300 with the contact of zone 7 wet: WATCH → CONDENSING in the part, with its verdict, its notice and the ALERT line. -/
theorem test_evaluation_acts_on_the_part :
    let t := (hall 31300 { watching with wet := true }).evaluate 7
    t.verdicts.map (fun v => (v.zone, v.fromState, v.toState, v.cause)) = [(7, .watch, .condensing, .wet)] ∧
      t.noticePending = { NoticeSets.none with condensing := 128 } ∧ t.alert = true := by decide +kernel

theorem witness_VerdictsCoalesce :
    (∀ v ∈ [verdict4], v.zone ≠ 7) ∧ [verdict4] = [] ++ verdict4 :: [] ∧ verdict4.zone = 4 ∧
      ∀ w ∈ ([] : List Verdict) ++ [], w.zone ≠ 4 := by decide

/-! ### The invariants: the state after reset with a command waiting -/

/-- A SET ALERT waiting in the state after reset. -/
def waiting : State := { State.reset with pending := [.setAlert [2]] }

theorem witness_step : step waiting = .next (ran (.setAlert [2]) State.reset) := rfl

theorem waiting_arithmetic : waiting.ArithmeticLawful := by
  unfold State.ArithmeticLawful
  exact ⟨builtIn_lawful, trivial, by decide⟩

theorem waiting_zones : waiting.ZonesLawful := by
  intro z
  unfold Zone.Lawful
  simp [State.zone, waiting, State.reset, Zone.powerOn, Thresholds.powerOn, Zone.slot]

theorem waiting_outputs : waiting.OutputsLawful := by
  intro i
  unfold Output.Lawful Output.OnTime
  simp [State.output, waiting, State.reset, Output.powerOn]

/-- Nothing armed and nothing due; a step is `witness_step`'s. -/
theorem witness_NothingStaysDue :
    waiting.NothingWaitsIdle ∧ waiting.ProbeTableLawful ∧ waiting.ZonesLawful ∧ waiting.OutputsLawful ∧
      waiting.DeadlinesOnTime := by
  refine ⟨reset_waits, lawful_table (by decide) (by decide) (fun _ h => nomatch h) rfl, waiting_zones, waiting_outputs, ?_⟩
  unfold State.DeadlinesOnTime onTime
  simp [State.wetInput, State.slotDeadline, State.persistenceDeadline, State.zone, State.output, waiting, State.reset,
    Zone.powerOn, Zone.slot, WetInput.powerOn, Output.powerOn, Slot.expiry, deadlineDue]

theorem witness_invariants :
    (waiting.QueuesWithinPlaces ∧ waiting.OneVerdictPerZone) ∧ (waiting.ProbeTableLawful ∧ waiting.ArmedArePending) ∧
      waiting.ArithmeticLawful ∧ waiting.ZonesLawful ∧ (waiting.WetFlagsTrue ∧ waiting.OutputsLawful) ∧ waiting.AlertTrue ∧
      (waiting.NothingWaitsIdle ∧ waiting.LinesLawful) := by
  refine ⟨⟨?_, ?_⟩, ⟨lawful_table (by decide) (by decide) (fun _ h => nomatch h) rfl, ?_⟩, waiting_arithmetic, waiting_zones,
    ⟨reset_flags, waiting_outputs⟩, ?_, reset_waits, ?_⟩
  · unfold State.QueuesWithinPlaces
    decide
  · unfold State.OneVerdictPerZone
    decide
  · unfold State.ArmedArePending
    decide +kernel
  · unfold State.AlertTrue
    decide +kernel
  · simp [State.LinesLawful, Transmitter.Lawful, waiting, State.reset, Transmitter.powerOn]

/-- Rows and payloads at their longest. -/
theorem witness_PayloadsAndRowsAgree :
    WellFormed (.readTime (List.replicate 59 0)) = true ∧
      (Instr.readTime (List.replicate 59 0)).payload = some (1 :: List.replicate 59 0) ∧
      (1 :: List.replicate 59 (0 : Byte)).length ≤ 60 := by decide

end Sys2Proof.Tests
end

/-! SUPPORT. What an answered command leaves, by the kind of its answer; the fields of a payload read back. -/

namespace Sys2Proof.Machine

open Sys2Proof

/-! ## Answers of COMMAND rows -/

/-- A refused command leaves the part as it is (R166, R167). -/
theorem commandRow_refused {s u : State} (h : s.hears u) (code : Nat) (fields : List Byte) {answer : State → Answer}
    {r : Result} (e : answer u = refuse r u) : commandRow code fields answer s = answered u code r [] :=
  commandRow_answered h code fields rfl e

/-- A command carried out leaves `v` and its data. -/
theorem commandRow_done {s u v : State} (h : s.hears u) (code : Nat) (fields : List Byte) {answer : State → Answer}
    {data : List Byte} (own : v.ownAddress = u.ownAddress) (e : answer u = done data v) :
    commandRow code fields answer s = answered v code .done data :=
  commandRow_answered h code fields own e

/-! ## Fields written and read back (R187) -/

@[simp] theorem u8_cons_succ (b : Byte) (f : List Byte) (i : Nat) : u8 (b :: f) (i + 1) = u8 f i := rfl

@[simp] theorem u16_cons_succ (b : Byte) (f : List Byte) (i : Nat) : u16 (b :: f) (i + 1) = u16 f i := rfl

@[simp] theorem b8_toNat (b : Byte) : b8 b.toNat = [b] := by simp [b8]

@[simp] theorem b16_length (n : Nat) : (b16 n).length = 2 := rfl

theorem u16_b16_append {n : Nat} (h : n < 65536) (f : List Byte) : u16 (b16 n ++ f) 0 = n := by
  simp [u16, b16]
  omega

theorem u16_b16_append_add_two (n : Nat) (f : List Byte) (i : Nat) : u16 (b16 n ++ f) (i + 2) = u16 f i := rfl

theorem flatMap_b16_length (vs : List Nat) : (vs.flatMap b16).length = 2 * vs.length := by
  simp [List.length_flatMap, Nat.mul_comm]

theorem u16_flatMap_b16 (vs : List Nat) (fit : ∀ v ∈ vs, v < 65536) (k : Nat) (h : k < vs.length) :
    u16 (vs.flatMap b16) (2 * k) = vs[k] := by
  induction vs generalizing k with
  | nil => simp at h
  | cons v vs ih =>
    rw [List.flatMap_cons]
    cases k with
    | zero => exact u16_b16_append (fit v List.mem_cons_self) _
    | succ k =>
      exact (u16_b16_append_add_two v _ (2 * k)).trans
        (ih (fun w m => fit w (List.mem_cons_of_mem v m)) k (by simpa using h))

end Sys2Proof.Machine

/-! SUPPORT. The Psychrometric Unit's commands: what each judges and answers (R56 to R61, R65). -/

namespace Sys2Proof.Machine

open Sys2Proof

/-! ## The curve's loading -/

/-- The ranges of CURVE BEGIN, the top knot's in whole numbers (R56). -/
theorem curveInRange_iff (base : Int) (step n : Nat) :
    curveInRange base step n = true ↔
      (-4000 ≤ base ∧ base ≤ 8500) ∧ (50 ≤ step ∧ step ≤ 1000) ∧ (2 ≤ n ∧ n ≤ 32) ∧
        base + ((n : Int) - 1) * step ≤ 8500 := by
  by_cases two : 2 ≤ n
  · have last : ((n - 1 : Nat) : Int) = (n : Int) - 1 := by omega
    simp [curveInRange, last, and_assoc]
  · simp [curveInRange, two]

/-- CURVE BEGIN with its five field bytes (R56). -/
theorem curveBegin_inRange {f : List Byte} (size : f.length = 5) (fits : curveInRange (s16 f 0) (u16 f 2) (u8 f 4) = true)
    (s : State) : curveBegin f s = done [1, 0] { s with staging := .filling (s16 f 0) (u16 f 2) (u8 f 4) [] } := by
  rw [curveBegin, sized_right size, if_pos fits]
  rfl

theorem curveBegin_outOfRange {f : List Byte} (size : f.length = 5)
    (out : ¬ curveInRange (s16 f 0) (u16 f 2) (u8 f 4) = true) (s : State) : curveBegin f s = refuse .range s := by
  rw [curveBegin, sized_right size, if_neg out]

/-- The values a CURVE POINTS payload was written with. -/
theorem pointValues_flatMap_b16 (i : Byte) (vs : List Nat) (fit : ∀ v ∈ vs, v < 65536) :
    pointValues (i :: vs.flatMap b16) = vs := by
  refine List.ext_getElem (by simp [pointValues]) fun k _ h => ?_
  simpa [pointValues, Nat.add_comm 1] using u16_flatMap_b16 vs fit k h

section CurvePoints

variable {i : Byte} {vs : List Nat} (one : 1 ≤ vs.length) (sixteen : vs.length ≤ 16) (fit : ∀ v ∈ vs, v < 65536)
include one sixteen fit

omit fit in
/-- 1 to 16 values make a payload of a length that CURVE POINTS allows (R168). -/
theorem curvePoints_length_allowed :
    (i :: vs.flatMap b16).length % 2 = 1 ∧ 3 ≤ (i :: vs.flatMap b16).length ∧ (i :: vs.flatMap b16).length ≤ 33 := by
  simp only [List.length_cons, flatMap_b16_length]
  omega

/-- RANGE is judged first (R57). -/
theorem curvePoints_range (h : 31 < i.toNat ∨ 0 ∈ vs) (s : State) :
    curvePoints (i :: vs.flatMap b16) s = refuse .range s := by
  rw [curvePoints, if_pos (curvePoints_length_allowed one sixteen), pointValues_flatMap_b16 i vs fit,
    if_pos (by simpa using h)]

/-- With index and values in range the staging buffer decides: only a FILLING one takes the values, at its expected index and
within its n (R57). -/
theorem curvePoints_notFilling (index : i.toNat ≤ 31) (nonzero : 0 ∉ vs) {s : State} (h : s.staging.code ≠ 1) :
    curvePoints (i :: vs.flatMap b16) s = refuse .sequence s := by
  rw [curvePoints, if_pos (curvePoints_length_allowed one sixteen), pointValues_flatMap_b16 i vs fit,
    if_neg (by simpa using ⟨index, nonzero⟩)]
  cases e : s.staging with
  | filling base step n old => simp [e, Staging.code] at h
  | empty => rfl
  | full base step n old => rfl

theorem curvePoints_filling (index : i.toNat ≤ 31) (nonzero : 0 ∉ vs) {s : State} {base : Int} {step n : Nat}
    {old : List Nat} (h : s.staging = .filling base step n old) :
    curvePoints (i :: vs.flatMap b16) s =
      if i.toNat = old.length ∧ i.toNat + vs.length ≤ n then
        done (stagingField (stage base step n (old ++ vs))) { s with staging := stage base step n (old ++ vs) }
      else refuse .sequence s := by
  rw [curvePoints, if_pos (curvePoints_length_allowed one sixteen), pointValues_flatMap_b16 i vs fit,
    if_neg (by simpa using ⟨index, nonzero⟩), h]
  rfl

end CurvePoints

theorem stage_full {n : Nat} {vs : List Nat} (h : vs.length = n) (base : Int) (step : Nat) :
    stage base step n vs = .full base step n vs := if_pos h

theorem stage_filling {n : Nat} {vs : List Nat} (h : vs.length ≠ n) (base : Int) (step : Nat) :
    stage base step n vs = .filling base step n vs := if_neg h

theorem firstUnordered_eq_none {vs : List Nat} (h : vs.Pairwise (· < ·)) : firstUnordered vs = none := by
  rw [firstUnordered, List.find?_range_eq_none]
  intro i lt
  cases i with
  | zero => simp
  | succ i =>
    have lower : i < vs.length := Nat.lt_of_succ_lt lt
    simpa [lower, lt] using List.pairwise_iff_getElem.mp h i (i + 1) lower lt i.lt_add_one

theorem firstUnordered_eq_some {vs : List Nat} {i : Nat} (one : 1 ≤ i) (lt : i < vs.length)
    (here : vs.getD i 0 ≤ vs.getD (i - 1) 0) (before : ∀ j, 1 ≤ j → j < i → vs.getD (j - 1) 0 < vs.getD j 0) :
    firstUnordered vs = some i := by
  rw [firstUnordered, List.find?_range_eq_some]
  refine ⟨decide_eq_true ⟨one, here⟩, List.mem_range.mpr lt, fun j less => ?_⟩
  rw [Bool.not_eq_true', decide_eq_false_iff_not]
  exact fun h => (before j h.1 less).not_ge h.2

/-- CURVE COMMIT by the staging buffer and the lowest index out of order (R58). -/
theorem curveCommit_notFull {s : State} (h : s.staging.code ≠ 2) : curveCommit [] s = refuse .sequence s := by
  rw [curveCommit, sized_right List.length_nil]
  cases e : s.staging with
  | full base step n vs => simp [e, Staging.code] at h
  | empty => rfl
  | filling base step n vs => rfl

theorem curveCommit_ordered {s : State} {base : Int} {step n : Nat} {vs : List Nat} (h : s.staging = .full base step n vs)
    (order : firstUnordered vs = none) :
    curveCommit [] s = done [] { s with curve := { base := base, step := step, values := vs }, staging := .empty } := by
  simp [curveCommit, sized_right, h, order]

theorem curveCommit_unordered {s : State} {base : Int} {step n i : Nat} {vs : List Nat}
    (h : s.staging = .full base step n vs) (order : firstUnordered vs = some i) :
    curveCommit [] s = { result := .curve, data := b8 i, state := s } := by
  simp [curveCommit, sized_right, h, order]

/-! ## The reads -/

theorem probeAddress_iff (a : Byte) : probeAddress a = true ↔ 1 ≤ a.toNat ∧ a.toNat ≤ 126 := by simp [probeAddress]

/-- READ PROBE by its address and the table (R38). -/
theorem readProbe_outOfRange {a : Byte} (h : ¬ probeAddress a = true) (s : State) : readProbe [a] s = refuse .range s := by
  simp [readProbe, sized_right, h]

theorem readProbe_absent {a : Byte} (h : probeAddress a = true) {s : State} (absent : s.findProbe a = none) :
    readProbe [a] s = refuse .absent s := by
  simp [readProbe, sized_right, h, absent]

theorem readProbe_present {a : Byte} (h : probeAddress a = true) {s : State} {e : ProbeEntry}
    (present : s.findProbe a = some e) : readProbe [a] s = done e.field s := by
  simp [readProbe, sized_right, h, present]

/-- LIST PROBES from index i: at most 12 addresses (R39). -/
theorem listProbes_inRange {i : Byte} (h : i.toNat ≤ 95) (s : State) :
    listProbes [i] s =
      done
        (b8 s.probes.length ++ b8 (min 12 (s.probes.length - i.toNat))
          ++ ((s.probes.drop i.toNat).take 12).map fun e => e.load.address) s := by
  simp [listProbes, sized_right, h]

theorem listProbes_outOfRange {i : Byte} (h : 95 < i.toNat) (s : State) : listProbes [i] s = refuse .range s := by
  simp [listProbes, sized_right, h]

/-- READ CURVE from index i: at most 16 values of the curve in force (R61). -/
theorem readCurve_inRange {i : Byte} (h : i.toNat ≤ 31) (s : State) :
    readCurve [i] s =
      done
        (i16 s.curve.base ++ b16 s.curve.step ++ b8 s.curve.values.length ++ [i]
          ++ b8 (min 16 (s.curve.values.length - i.toNat))
          ++ ((s.curve.values.drop i.toNat).take 16).flatMap b16
          ++ b8 s.staging.code ++ b8 s.staging.expected) s := by
  simp [readCurve, sized_right, h, stagingField, Curve.n]

theorem readCurve_outOfRange {i : Byte} (h : 31 < i.toNat) (s : State) : readCurve [i] s = refuse .range s := by
  simp [readCurve, sized_right, h]

/-! ## The statements -/

/-- Settles O30: each read answers in its own event, and leaves the part as it is. -/
theorem readsOfTimeTablesAndCurve : Obligations.ReadsOfTimeTablesAndCurve := by
  unfold Obligations.ReadsOfTimeTablesAndCurve
  intro s u h
  refine ⟨?_, ?_, fun a => ⟨fun out => ?_, fun low high => ?_⟩, fun i => ⟨fun out => ?_, fun low => ?_⟩,
    fun i => ⟨fun out => ?_, fun low => ?_⟩⟩
  · exact commandRow_done h 1 [] rfl (sized_right rfl u _)
  · exact commandRow_done h 20 [] rfl (sized_right rfl u _)
  · exact commandRow_refused h 5 [a] (readProbe_outOfRange (by rw [probeAddress_iff]; omega) u)
  · have address := (probeAddress_iff a).mpr ⟨low, high⟩
    exact ⟨fun absent => commandRow_refused h 5 [a] (readProbe_absent address absent),
      fun e present => commandRow_done h 5 [a] rfl (readProbe_present address present)⟩
  · exact commandRow_refused h 6 [i] (listProbes_outOfRange out u)
  · exact commandRow_done h 6 [i] rfl (listProbes_inRange low u)
  · exact commandRow_refused h 18 [i] (readCurve_outOfRange out u)
  · exact commandRow_done h 18 [i] rfl (readCurve_inRange low u)

/-- Settles O35: CURVE BEGIN by its ranges, CURVE POINTS in the order of its judgement, CURVE COMMIT by the staging buffer. -/
theorem curvesAreLoaded : Obligations.CurvesAreLoaded := by
  unfold Obligations.CurvesAreLoaded
  intro s u h
  refine ⟨fun f size => ⟨fun fits => ?_, fun out => ?_⟩, fun i vs one sixteen fit => ⟨fun bad => ?_, fun index nonzero => ?_⟩,
    fun notFull => ?_, fun base step n vs full => ⟨fun order => ?_, fun i one lt here before => ?_⟩⟩
  · exact commandRow_done h 14 f rfl (curveBegin_inRange size ((curveInRange_iff _ _ _).mpr fits) u)
  · exact commandRow_refused h 14 f (curveBegin_outOfRange size (mt (curveInRange_iff _ _ _).mp out) u)
  · exact commandRow_refused h 15 _ (curvePoints_range one sixteen fit bad u)
  · refine ⟨fun other => commandRow_refused h 15 _ (curvePoints_notFilling one sixteen fit index nonzero other), ?_⟩
    intro base step n old filling
    have judged := curvePoints_filling one sixteen fit index nonzero filling
    refine ⟨fun misplaced => ?_, fun expected more => ?_, fun expected last => ?_⟩
    · rw [if_neg (by omega)] at judged
      exact commandRow_refused h 15 _ judged
    · have total : (old ++ vs).length = i.toNat + vs.length := by rw [List.length_append, expected]
      rw [if_pos ⟨expected, more.le⟩, stage_filling (by omega)] at judged
      rw [← total]
      exact commandRow_done h 15 _ rfl judged
    · have total : (old ++ vs).length = n := by rw [List.length_append, ← expected, last]
      rw [if_pos ⟨expected, last.le⟩, stage_full total] at judged
      rw [← total] at judged ⊢
      exact commandRow_done h 15 _ rfl judged
  · exact commandRow_refused h 16 [] (curveCommit_notFull notFull)
  · exact commandRow_done h 16 [] rfl (curveCommit_ordered full (firstUnordered_eq_none order))
  · exact commandRow_answered h 16 [] rfl (curveCommit_unordered full (firstUnordered_eq_some one lt here before))

/-- Settles O36: RESTORE CURVE, whatever is staged. -/
theorem restoreCurveBringsTheBuiltInCurve : Obligations.RestoreCurveBringsTheBuiltInCurve := by
  unfold Obligations.RestoreCurveBringsTheBuiltInCurve
  intro s u h
  exact commandRow_done h 17 [] rfl (sized_right rfl u _)

end Sys2Proof.Machine

/-! SUPPORT. Interpolation on a curve: the one rounding, the search for an interval, and stages 4 to 6 (R63, R71 to R73). -/

namespace Sys2Proof.Machine

open Sys2Proof

/-! ## A rounded quotient -/

/-- A quotient is rounded down, or up when it is inexact (R63). -/
theorem roundQuotient_cases (mode : Rounding) (a b : Nat) :
    roundQuotient mode a b = a / b ∨ (a % b ≠ 0 ∧ roundQuotient mode a b = a / b + 1) := by
  unfold roundQuotient
  by_cases whole : a % b = 0
  · exact .inl (if_pos whole)
  · cases mode with
    | down => simp [whole]
    | up => simp [whole]
    | nearest =>
      simp only [whole, if_false]
      split_ifs <;> simp [whole]

/-- Rounding never passes a whole number that bounds the quotient. -/
theorem roundQuotient_le {a b q : Nat} (mode : Rounding) (h : a ≤ b * q) : roundQuotient mode a b ≤ q := by
  have down : a / b ≤ q := Nat.div_le_of_le_mul h
  obtain same | ⟨inexact, up⟩ := roundQuotient_cases mode a b
  · rwa [same]
  · rw [up]
    refine lt_of_le_of_ne down fun reached => inexact ?_
    have split := Nat.div_add_mod a b
    rw [reached] at split
    omega

/-- An exact quotient is not rounded. -/
theorem roundQuotient_exact {b : Nat} (mode : Rounding) (pos : 0 < b) (q : Nat) : roundQuotient mode (b * q) b = q := by
  simp [roundQuotient, Nat.mul_div_cancel_left q pos]

@[simp] theorem roundQuotient_zero (mode : Rounding) (b : Nat) : roundQuotient mode 0 b = 0 := by simp [roundQuotient]

/-! ## The interval of a value -/

theorem lastIndex_le (p : Nat → Bool) (k : Nat) : lastIndex p k ≤ k := by
  induction k with
  | zero => exact le_rfl
  | succ k ih =>
    rw [lastIndex]
    split_ifs
    · exact le_rfl
    · exact ih.trans k.le_succ

theorem lastIndex_holds {p : Nat → Bool} (zero : p 0 = true) (k : Nat) : p (lastIndex p k) = true := by
  induction k with
  | zero => exact zero
  | succ k ih =>
    rw [lastIndex]
    split_ifs with h
    · exact h
    · exact ih

theorem le_lastIndex {p : Nat → Bool} {j k : Nat} (le : j ≤ k) (h : p j = true) : j ≤ lastIndex p k := by
  induction k with
  | zero => exact le
  | succ k ih =>
    rw [lastIndex]
    split_ifs with last
    · exact le
    · refine ih (Nat.lt_succ_iff.mp (lt_of_le_of_ne le ?_))
      rintro rfl
      exact last h

/-- The index of the interval that a value falls in, the top knot in the last interval (R71, R73). -/
def interval {α : Type} [LinearOrder α] (f : Nat → α) (n : Nat) (x : α) : Nat :=
  lastIndex (fun i => decide (f i ≤ x)) (n - 2)

section Interval

variable {α : Type} [LinearOrder α] {f : Nat → α} {n : Nat} {x : α} (two : 2 ≤ n)
include two

theorem interval_add_two_le : interval f n x + 2 ≤ n := by
  have : interval f n x ≤ n - 2 := lastIndex_le _ _
  omega

omit two in
theorem apply_interval_le (low : f 0 ≤ x) : f (interval f n x) ≤ x :=
  of_decide_eq_true (lastIndex_holds (p := fun i => decide (f i ≤ x)) (decide_eq_true low) (n - 2))

omit two in
theorem le_interval {j : Nat} (below : j + 2 ≤ n) (h : f j ≤ x) : j ≤ interval f n x :=
  le_lastIndex (by omega) (decide_eq_true h)

/-- The value does not pass the interval's upper knot. -/
theorem le_apply_interval_succ (high : x ≤ f (n - 1)) : x ≤ f (interval f n x + 1) := by
  have bound := interval_add_two_le (f := f) (x := x) two
  by_contra! above
  by_cases last : interval f n x + 2 = n
  · exact absurd above (by rw [show interval f n x + 1 = n - 1 by omega]; exact high.not_gt)
  · have := le_interval (show interval f n x + 1 + 2 ≤ n by omega) above.le
    omega

/-- A knot below the top one opens its own interval. -/
theorem interval_knot (mono : ∀ i j, i < j → j < n → f i < f j) {i : Nat} (below : i + 2 ≤ n) : interval f n (f i) = i := by
  have bound := interval_add_two_le (f := f) (x := f i) two
  refine le_antisymm (not_lt.mp fun above => ?_) (le_interval below le_rfl)
  have low : f 0 ≤ f i := by
    cases i with
    | zero => exact le_rfl
    | succ i => exact (mono 0 (i + 1) (by omega) (by omega)).le
  exact (apply_interval_le low).not_gt (mono i _ above (by omega))

/-- The top knot closes the last interval. -/
theorem interval_top (mono : ∀ i j, i < j → j < n → f i < f j) : interval f n (f (n - 1)) = n - 2 := by
  have bound := interval_add_two_le (f := f) (x := f (n - 1)) two
  have := le_interval (show n - 2 + 2 ≤ n by omega) (mono (n - 2) (n - 1) (by omega) (by omega)).le
  omega

end Interval

/-! ## A lawful curve (R53) -/

@[simp] theorem Curve.knot_zero (c : Curve) : c.knot 0 = c.base := by simp [Curve.knot]

theorem Curve.knot_succ (c : Curve) (i : Nat) : c.knot (i + 1) = c.knot i + c.step := by
  simp only [Curve.knot]
  push_cast
  ring

theorem Curve.es_eq_getElem {c : Curve} {i : Nat} (h : i < c.values.length) : c.es i = c.values[i] := by
  simp [Curve.es, h]

section LawfulCurve

variable {c : Curve} (law : c.Lawful)
include law

theorem Curve.Lawful.two_le : 2 ≤ c.n := by
  obtain ⟨⟨_, _, _, two, _⟩, _⟩ := law
  exact two

theorem Curve.Lawful.step_pos : 0 < c.step := by
  obtain ⟨⟨_, low, _⟩, _⟩ := law
  omega

theorem Curve.Lawful.knot_lt {i j : Nat} (h : i < j) : c.knot i < c.knot j := by
  have pos : (0 : Int) < c.step := by exact_mod_cast law.step_pos
  have := mul_lt_mul_of_pos_right (show (i : Int) < j by exact_mod_cast h) pos
  simp only [Curve.knot]
  omega

theorem Curve.Lawful.es_lt {i j : Nat} (h : i < j) (below : j < c.n) : c.es i < c.es j := by
  obtain ⟨_, _, order⟩ := law
  rw [Curve.es_eq_getElem (h.trans below), Curve.es_eq_getElem below]
  exact List.pairwise_iff_getElem.mp order i j _ below h

theorem Curve.Lawful.es_le {i j : Nat} (h : i ≤ j) (below : j < c.n) : c.es i ≤ c.es j := by
  obtain rfl | less := h.eq_or_lt
  · exact le_rfl
  · exact (law.es_lt less below).le

theorem Curve.Lawful.es_zero_pos : 0 < c.es 0 := by
  have two := law.two_le
  obtain ⟨_, range, _⟩ := law
  have first : 0 < c.values.length := Nat.zero_lt_two.trans_le two
  rw [Curve.es_eq_getElem first]
  exact (range _ (List.getElem_mem first)).1

end LawfulCurve

/-! ## Stage 4 (R71) -/

theorem saturationAt_eq (mode : Rounding) (c : Curve) (t : Int) :
    saturationAt mode c t =
      c.es (interval c.knot c.n t) +
        roundQuotient mode
          ((c.es (interval c.knot c.n t + 1) - c.es (interval c.knot c.n t)) * (t - c.knot (interval c.knot c.n t)).toNat)
          c.step := rfl

/-- A knot below the top one has its own value. -/
theorem saturationAt_knot (mode : Rounding) {c : Curve} (law : c.Lawful) {i : Nat} (below : i + 2 ≤ c.n) :
    saturationAt mode c (c.knot i) = c.es i := by
  rw [saturationAt_eq, interval_knot law.two_le (fun _ _ h _ => law.knot_lt h) below]
  simp

/-- At the upper knot of interval i the interpolation is exact. -/
theorem interpolated_at_upper (mode : Rounding) {c : Curve} (law : c.Lawful) {i : Nat} (below : i + 1 < c.n) :
    c.es i + roundQuotient mode ((c.es (i + 1) - c.es i) * (c.knot (i + 1) - c.knot i).toNat) c.step = c.es (i + 1) := by
  have width : (c.knot (i + 1) - c.knot i).toNat = c.step := by
    rw [c.knot_succ]
    omega
  rw [width, Nat.mul_comm, roundQuotient_exact mode law.step_pos]
  have := law.es_lt (Nat.lt_add_one i) below
  omega

theorem saturationAt_top (mode : Rounding) {c : Curve} (law : c.Lawful) : saturationAt mode c c.top = c.es (c.n - 1) := by
  have two := law.two_le
  have last : c.n - 2 + 1 = c.n - 1 := by omega
  rw [Curve.top, saturationAt_eq, interval_top two fun _ _ h _ => law.knot_lt h]
  simpa only [last] using interpolated_at_upper mode law (i := c.n - 2) (by omega)

/-- An interpolated pressure stays in its interval. -/
theorem saturationAt_bounds (mode : Rounding) {c : Curve} (law : c.Lawful) {t : Int} (high : t ≤ c.top) :
    c.es (interval c.knot c.n t) ≤ saturationAt mode c t ∧ saturationAt mode c t ≤ c.es (interval c.knot c.n t + 1) := by
  have inside := interval_add_two_le (f := c.knot) (x := t) law.two_le
  have upper := le_apply_interval_succ law.two_le high
  have rise := law.es_lt (Nat.lt_add_one (interval c.knot c.n t)) (by omega)
  rw [c.knot_succ] at upper
  have part : roundQuotient mode
      ((c.es (interval c.knot c.n t + 1) - c.es (interval c.knot c.n t)) * (t - c.knot (interval c.knot c.n t)).toNat)
      c.step ≤ c.es (interval c.knot c.n t + 1) - c.es (interval c.knot c.n t) :=
    roundQuotient_le mode (by rw [Nat.mul_comm]; exact Nat.mul_le_mul_right _ (by omega))
  rw [saturationAt_eq]
  omega

/-! ## Stage 5 (R72) -/

theorem vapourPressure_le (mode : Rounding) (es : Nat) {rh : Int} (high : rh ≤ 10000) : vapourPressure mode es rh ≤ es :=
  roundQuotient_le mode (by rw [Nat.mul_comm]; exact Nat.mul_le_mul_right es (by omega))

@[simp] theorem vapourPressure_full (mode : Rounding) (es : Nat) : vapourPressure mode es 10000 = es := by
  rw [vapourPressure, Nat.mul_comm]
  exact roundQuotient_exact mode (by decide) es

@[simp] theorem vapourPressure_zero (mode : Rounding) (es : Nat) : vapourPressure mode es 0 = 0 := by
  simp [vapourPressure]

/-! ## Stage 6 (R73) -/

/-- A pressure below es_0 sets the sticky flag of LOW_VAPOUR, masked or not. -/
theorem dewStage_lowVapour {c : Curve} {e : Nat} (h : e < c.es 0) (a : Arithmetic) (t : Int) (v : Conversion) :
    (dewStage a c t e v).sticky.getLsbD 3 = true := by
  rw [dewStage, if_pos h]
  have raised : (v.raise .lowVapour).sticky.getLsbD 3 = true := by
    simp [Conversion.raise, Condition.bit, Condition.code]
  split_ifs
  · exact raised
  · exact raised

theorem invertCurve_eq (mode : Rounding) (c : Curve) (e : Nat) :
    invertCurve mode c e =
      c.knot (interval c.es c.n e) +
        roundQuotient mode (c.step * (e - c.es (interval c.es c.n e)))
          (c.es (interval c.es c.n e + 1) - c.es (interval c.es c.n e)) := rfl

theorem invertCurve_knot (mode : Rounding) {c : Curve} (law : c.Lawful) {j : Nat} (below : j + 2 ≤ c.n) :
    invertCurve mode c (c.es j) = c.knot j := by
  rw [invertCurve_eq, interval_knot law.two_le (fun _ _ => law.es_lt) below]
  simp

theorem invertCurve_top (mode : Rounding) {c : Curve} (law : c.Lawful) : invertCurve mode c (c.es (c.n - 1)) = c.top := by
  have two := law.two_le
  have last : c.n - 2 + 1 = c.n - 1 := by omega
  have rise := law.es_lt (Nat.lt_add_one (c.n - 2)) (by omega)
  rw [invertCurve_eq, interval_top two fun _ _ => law.es_lt, last, Nat.mul_comm, Curve.top, ← last,
    roundQuotient_exact mode (by omega), c.knot_succ]

/-- An inverted pressure stays in its interval. -/
theorem invertCurve_bounds (mode : Rounding) {c : Curve} (law : c.Lawful) {e : Nat} (high : e ≤ c.es (c.n - 1)) :
    c.knot (interval c.es c.n e) ≤ invertCurve mode c e ∧ invertCurve mode c e ≤ c.knot (interval c.es c.n e + 1) := by
  have upper := le_apply_interval_succ law.two_le high
  have part : roundQuotient mode (c.step * (e - c.es (interval c.es c.n e)))
      (c.es (interval c.es c.n e + 1) - c.es (interval c.es c.n e)) ≤ c.step :=
    roundQuotient_le mode (by rw [Nat.mul_comm]; exact Nat.mul_le_mul_right _ (Nat.sub_le_sub_right upper _))
  rw [invertCurve_eq, c.knot_succ]
  omega

/-- Settles O46: the search of an interval gives each index, a knot and the top make the quotient exact, and a rounded part
never passes its interval. -/
theorem pressuresAreInterpolated : Obligations.PressuresAreInterpolated := by
  unfold Obligations.PressuresAreInterpolated
  intro mode c law
  have two := law.two_le
  refine ⟨fun t low high => ⟨?_, ?_, ?_, ?_⟩, fun e low high => ⟨?_, ?_, ?_⟩, fun es rh _ high => ⟨rfl, ?_, ?_, ?_, ?_⟩⟩
  · exact ⟨interval c.knot c.n t, interval_add_two_le two, apply_interval_le (by simpa using low), fun _ => le_interval, rfl⟩
  · rintro rfl
    exact saturationAt_top mode law
  · rintro i below rfl
    exact saturationAt_knot mode law below
  · obtain ⟨above, below⟩ := saturationAt_bounds mode law high
    have inside := interval_add_two_le (f := c.knot) (x := t) two
    exact ⟨(law.es_le (Nat.zero_le _) (by omega)).trans above, below.trans (law.es_le (by omega) (by omega))⟩
  · exact ⟨interval c.es c.n e, interval_add_two_le two, apply_interval_le low, fun _ => le_interval, rfl,
      invertCurve_bounds mode law high⟩
  · rintro rfl
    exact invertCurve_top mode law
  · rintro j below rfl
    exact invertCurve_knot mode law below
  · exact vapourPressure_le mode es high
  · exact vapourPressure_full mode es
  · exact vapourPressure_zero mode es
  · rw [vapourPressure_zero]
    exact dewStage_lowVapour law.es_zero_pos

end Sys2Proof.Machine

/-! SUPPORT. The commands that write a zone's configuration: SET ZONE and STAGE THRESHOLDS (R96, R97, R113). -/

namespace Sys2Proof.Machine

open Sys2Proof

/-! ## Judging a zone number with ranges -/

/-- A command on a zone with a further range condition is refused RANGE when either fails. -/
theorem withZone_outOfRange {n : Nat} {c : Prop} [Decidable c] (out : ¬ (n < 24 ∧ c)) (s : State) (k : Fin 24 → Answer) :
    withZone n s (fun z => if c then k z else refuse .range s) = refuse .range s := by
  obtain high | low := le_or_gt 24 n
  · exact withZone_out high s _
  · exact (withZone_fin ⟨n, low⟩ s _).trans (if_neg fun inside => out ⟨low, inside⟩)

/-- With both in range the command goes on. -/
theorem withZone_inRange {n : Nat} {z : Fin 24} (zone : n = z) {c : Prop} [Decidable c] (fits : c) (s : State)
    (k : Fin 24 → Answer) : withZone n s (fun z => if c then k z else refuse .range s) = k z := by
  rw [zone, withZone_fin, if_pos fits]

theorem zoneConfigInRange_iff (a i l g : Nat) :
    zoneConfigInRange a i l g = true ↔
      (100 ≤ a ∧ a ≤ 36000) ∧ (i = 0 ∨ (100 ≤ i ∧ i ≤ 6000)) ∧ l ≤ 15 ∧ g ≤ 6000 := by
  simp [zoneConfigInRange, and_assoc]

theorem Thresholds.inRange_iff (t : Thresholds) :
    t.inRange = true ↔ 1 ≤ t.k ∧ t.k < t.w ∧ t.w ≤ 3000 ∧ t.h ≤ 500 ∧ t.p ≤ 36000 := by
  simp [Thresholds.inRange]

/-! ## Fields echoed in an answer -/

@[simp] theorem b16_u16 (b c : Byte) (f : List Byte) : b16 (u16 (b :: c :: f) 0) = [b, c] := by
  have high : (256 * b.toNat + c.toNat) / 256 = b.toNat := by omega
  have low : BitVec.ofNat 8 (256 * b.toNat + c.toNat) = c := BitVec.eq_of_toNat_eq (by simp; omega)
  simp [u16, b16, high, low]

/-- The fields of SET ZONE written out again are its payload. -/
theorem zoneConfigField_eq {f : List Byte} (size : f.length = 8) :
    b8 (u8 f 0) ++ b16 (u16 f 1) ++ b16 (u16 f 3) ++ b8 (u8 f 5) ++ b16 (u16 f 6) = f := by
  match f, size with
  | [_, _, _, _, _, _, _, _], _ => simp

/-- The thresholds of STAGE THRESHOLDS written out again are the payload after the zone number. -/
theorem thresholdsField_eq {f : List Byte} (size : f.length = 9) :
    thresholdsField { w := u16 f 1, k := u16 f 3, h := u16 f 5, p := u16 f 7 } = f.drop 1 := by
  match f, size with
  | [_, _, _, _, _, _, _, _, _], _ => simp [thresholdsField]

theorem b8_u8_zero {f : List Byte} (nonempty : f ≠ []) : b8 (u8 f 0) = f.take 1 := by
  cases f with
  | nil => exact absurd rfl nonempty
  | cons b f => simp

/-! ## The configured record -/

/-- A recomputed slot keeps its dew point. -/
@[simp] theorem Slot.recompute_dew (now : Stamp) (age : Nat) (k : Slot) : (k.recompute now age).dew = k.dew := by
  cases k <;> rfl

/-- So a zone's dew point does not depend on its age limit. -/
theorem Zone.dew_recomputed {y z : Zone} {now : Stamp} {age : Nat} (h : y.slots = z.slots.map (Slot.recompute now age)) :
    y.dew = z.dew := by
  have kept : Slot.dew ∘ Slot.recompute now age = Slot.dew := funext (Slot.recompute_dew now age)
  rw [Zone.dew, h, Vector.toList_map, List.filterMap_map, kept, Zone.dew]

/-- SET ZONE's record, field by field: a restarted trend starts at the dew point of the zone before it (R97, R103). -/
theorem Zone.configure_eq (now : Stamp) (a i l g : Nat) (z : Zone) :
    z.configure now a i l g =
      { z with
        age := a, interval := i, lookahead := l, grace := g
        slots := if a = z.age then z.slots else z.slots.map (Slot.recompute now a)
        trendStart := if i ≠ z.interval ∧ z.enabled = true then (if 0 < i then z.dew else none) else z.trendStart
        slope := if i ≠ z.interval ∧ z.enabled = true then none else z.slope
        trendDeadline :=
          if i ≠ z.interval ∧ z.enabled = true then (if 0 < i then some (setDeadline now now i) else none)
          else z.trendDeadline } := by
  by_cases same : a = z.age
  · subst same
    by_cases restarted : i ≠ z.interval ∧ z.enabled = true
    · simp only [Zone.configure, if_pos restarted, if_true]
      rfl
    · simp only [Zone.configure, if_neg restarted, if_true]
  · by_cases restarted : i ≠ z.interval ∧ z.enabled = true
    · simp only [Zone.configure, if_pos restarted, if_neg same, Zone.restartTrend]
      rw [Zone.dew_recomputed rfl]
    · simp only [Zone.configure, if_neg restarted, if_neg same]

/-! ## The two commands -/

theorem setZone_outOfRange {f : List Byte} (size : f.length = 8)
    (out : ¬ (u8 f 0 < 24 ∧ zoneConfigInRange (u16 f 1) (u16 f 3) (u8 f 5) (u16 f 6) = true)) (s : State) :
    setZone f s = refuse .range s := by
  rw [setZone, sized_right size]
  exact withZone_outOfRange out s _

theorem setZone_inRange {f : List Byte} (size : f.length = 8) {z : Fin 24} (zone : u8 f 0 = z)
    (fits : zoneConfigInRange (u16 f 1) (u16 f 3) (u8 f 5) (u16 f 6) = true) (s : State) :
    setZone f s =
      done f (s.setZone z ((s.zone z).configure s.counter (u16 f 1) (u16 f 3) (u8 f 5) (u16 f 6))) := by
  rw [setZone, sized_right size]
  refine (withZone_inRange zone fits s _).trans ?_
  rw [← zone, zoneConfigField_eq size]

theorem stageThresholds_outOfRange {f : List Byte} (size : f.length = 9)
    (out : ¬ (u8 f 0 < 24 ∧ Thresholds.inRange { w := u16 f 1, k := u16 f 3, h := u16 f 5, p := u16 f 7 } = true))
    (s : State) : stageThresholds f s = refuse .range s := by
  rw [stageThresholds, sized_right size]
  exact withZone_outOfRange out s _

theorem stageThresholds_inRange {f : List Byte} (size : f.length = 9) {z : Fin 24} (zone : u8 f 0 = z)
    (fits : Thresholds.inRange { w := u16 f 1, k := u16 f 3, h := u16 f 5, p := u16 f 7 } = true) (s : State) :
    stageThresholds f s =
      done (f.take 1 ++ thresholdsField (s.zone z).active ++ f.drop 1)
        (s.setZone z
          { s.zone z with staged := some { w := u16 f 1, k := u16 f 3, h := u16 f 5, p := u16 f 7 } }) := by
  have nonempty : f ≠ [] := List.ne_nil_of_length_pos (by omega)
  rw [stageThresholds, sized_right size]
  refine (withZone_inRange zone fits s _).trans ?_
  rw [← zone, b8_u8_zero nonempty, thresholdsField_eq size]

/-- Settles O33: the ranges decide between the refusal and the written record, and the configured record is known field by
field. -/
theorem zoneSettingsAreWritten : Obligations.ZoneSettingsAreWritten := by
  unfold Obligations.ZoneSettingsAreWritten
  intro s u h
  refine ⟨fun f size => ⟨fun out => ?_, fun z fits zone => ?_⟩, fun f size => ⟨fun out => ?_, fun z fits zone => ?_⟩⟩
  · exact commandRow_refused h 7 f (setZone_outOfRange size (by rwa [zoneConfigInRange_iff]) u)
  · have judged := setZone_inRange size zone ((zoneConfigInRange_iff _ _ _ _).mpr fits.2) u
    rw [Zone.configure_eq] at judged
    exact commandRow_done h 7 f rfl judged
  · exact commandRow_refused h 8 f (stageThresholds_outOfRange size (by rwa [Thresholds.inRange_iff]) u)
  · have judged := stageThresholds_inRange size zone ((Thresholds.inRange_iff _).mpr fits.2) u
    simp only [thresholdsField, ← List.append_assoc] at judged
    exact commandRow_done h 8 f rfl judged

end Sys2Proof.Machine

/-! SUPPORT. The surface minimum, the dew point, the margin and its projection (R32, R84, R98 to R100, R105). -/

namespace Sys2Proof.Machine

open Sys2Proof

/-! ## The surface minimum and the dew point -/

theorem ProbeEntry.contribution_eq_some (e : ProbeEntry) (x : Int) :
    e.contribution = some x ↔ e.load.kind ≠ .air ∧ e.state = .live ∧ e.lastValue = .value x := by
  unfold ProbeEntry.contribution
  split
  case h_1 air => simp [air]
  case h_2 live value notAir =>
    have kind : e.load.kind ≠ .air := notAir
    simp [live, value, kind]
  case h_3 notAir other =>
    simp only [reduceCtorEq, false_iff]
    rintro ⟨_, live, value⟩
    exact other x live value

/-- The temperatures S is the least of are those that the zone's entries contribute (R98). -/
theorem State.mem_contributions (s : State) (z : Fin 24) (x : Int) :
    x ∈ (s.probes.filter fun e => e.load.zone == z).filterMap ProbeEntry.contribution ↔
      ∃ e, e ∈ s.probes ∧ e.load.zone = z ∧ e.contribution = some x := by
  simp [and_assoc]

theorem State.surfaceMin_eq_none (s : State) (z : Fin 24) :
    s.surfaceMin z = none ↔ ∀ e x, ¬ (e ∈ s.probes ∧ e.load.zone = z ∧ e.contribution = some x) := by
  rw [State.surfaceMin, List.min?_eq_none_iff, List.eq_nil_iff_forall_not_mem, forall_comm]
  simp only [State.mem_contributions, not_exists]

theorem State.surfaceMin_eq_some (s : State) (z : Fin 24) (x : Int) :
    s.surfaceMin z = some x ↔
      (∃ e, e ∈ s.probes ∧ e.load.zone = z ∧ e.contribution = some x) ∧
        ∀ e y, e ∈ s.probes ∧ e.load.zone = z ∧ e.contribution = some y → x ≤ y := by
  rw [State.surfaceMin, List.min?_eq_some_iff, forall_comm (α := ProbeEntry)]
  simp only [State.mem_contributions, forall_exists_index]

theorem Slot.dew_eq_some (k : Slot) (d : Int) : k.dew = some d ↔ ∃ stamp expiry, k = .valid stamp d expiry := by
  cases k <;> simp [Slot.dew, eq_comm]

/-- The dew points of a window are those of its VALID slots. -/
theorem Zone.mem_dews (z : Zone) (d : Int) :
    d ∈ z.slots.toList.filterMap Slot.dew ↔ ∃ k stamp expiry, z.slot k = .valid stamp d expiry := by
  simp only [List.mem_filterMap, Slot.dew_eq_some, Vector.mem_toList_iff, Vector.mem_iff_getElem]
  constructor
  · rintro ⟨_, ⟨k, below, rfl⟩, valid⟩
    exact ⟨⟨k, below⟩, valid⟩
  · rintro ⟨k, valid⟩
    exact ⟨z.slot k, ⟨k, k.isLt, rfl⟩, valid⟩

theorem Zone.dew_eq_none (z : Zone) :
    z.dew = none ↔ ∀ d, ¬ ∃ k stamp expiry, z.slot k = .valid stamp d expiry := by
  simp only [Zone.dew, List.max?_eq_none_iff, List.eq_nil_iff_forall_not_mem, Zone.mem_dews]

theorem Zone.dew_eq_some (z : Zone) (d : Int) :
    z.dew = some d ↔
      (∃ k stamp expiry, z.slot k = .valid stamp d expiry) ∧
        ∀ e, (∃ k stamp expiry, z.slot k = .valid stamp e expiry) → e ≤ d := by
  simp only [Zone.dew, List.max?_eq_some_iff, Zone.mem_dews]

/-! ## Saturation and the margin -/

theorem saturate_inside {x : Int} (low : -32767 ≤ x) (high : x ≤ 32767) : saturate x = x := by
  simp only [saturate, clampTo]
  omega

theorem saturate_above {x : Int} (h : 32767 < x) : saturate x = 32767 := by
  simp only [saturate, clampTo]
  omega

theorem saturate_below {x : Int} (h : x < -32767) : saturate x = -32767 := by
  simp only [saturate, clampTo]
  omega

theorem saturate_bounds (x : Int) : -32767 ≤ saturate x ∧ saturate x ≤ 32767 := by
  simp only [saturate, clampTo]
  omega

@[simp] theorem marginOf_some (a d : Int) : marginOf (some a) (some d) = some (saturate (a - d)) := rfl

theorem marginOf_unknown {x y : Option Int} (h : x = none ∨ y = none) : marginOf x y = none := by
  obtain rfl | rfl := h
  · rfl
  · cases x <;> rfl

/-- A known margin comes from a known S and D, and lies in the range of a saturated difference. -/
theorem marginOf_bounds {x y : Option Int} {m : Int} (h : marginOf x y = some m) : -32767 ≤ m ∧ m ≤ 32767 := by
  cases x with
  | none => simp [marginOf_unknown] at h
  | some a =>
    cases y with
    | none => simp [marginOf_unknown] at h
    | some d =>
      obtain rfl : saturate (a - d) = m := by simpa using h
      exact saturate_bounds _

theorem outcomeOf_above {m : Int} (h : 0 < m) : outcomeOf (some m) = .above := if_pos h

theorem outcomeOf_below {m : Int} (h : m < 0) : outcomeOf (some m) = .below := by
  rw [outcomeOf, if_neg (by omega), if_neg (by omega)]

/-! ## The projected margin -/

theorem Zone.projected_eq (z : Zone) (x : Option Int) :
    z.projected x = (marginOf x z.dew).map fun m => projectFrom m z.slope z.lookahead := rfl

/-- Without a rising dew point or a lookahead the margin is its own projection. -/
theorem projectFrom_still {slope : Option Int} {l : Nat} (h : slope = none ∨ l = 0 ∨ ∃ v, slope = some v ∧ v ≤ 0)
    (m : Int) : projectFrom m slope l = m := by
  cases slope with
  | none => rfl
  | some v =>
    refine if_neg fun rising => ?_
    obtain ⟨up, ahead⟩ := rising
    obtain unknown | zero | ⟨w, same, flat⟩ := h
    · cases unknown
    · omega
    · cases same
      omega

theorem projectFrom_rising {v : Int} {l : Nat} (up : 0 < v) (ahead : 0 < l) (m : Int) :
    projectFrom m (some v) l = max (-32767) (m - v * l) := if_pos ⟨up, ahead⟩

/-- The projection never raises a margin, and stays in the range of one. -/
theorem projectFrom_bounds {m : Int} (low : -32767 ≤ m) (slope : Option Int) (l : Nat) :
    projectFrom m slope l ≤ m ∧ -32767 ≤ projectFrom m slope l := by
  cases slope with
  | none => exact ⟨le_rfl, low⟩
  | some v =>
    by_cases rising : 0 < v ∧ 0 < l
    · obtain ⟨up, ahead⟩ := rising
      have fall : 0 ≤ v * l := by positivity
      rw [projectFrom_rising up ahead]
      omega
    · have still : projectFrom m (some v) l = m := if_neg rising
      rw [still]
      exact ⟨le_rfl, low⟩

/-- Settles O48: S and D as least and largest of what gives them, the saturation's three ranges, and the projection's two
cases. -/
theorem marginsAreProjected : Obligations.MarginsAreProjected := by
  unfold Obligations.MarginsAreProjected
  refine ⟨ProbeEntry.contribution_eq_some, fun s z => ⟨s.surfaceMin_eq_none z, s.surfaceMin_eq_some z⟩,
    fun z => ⟨z.dew_eq_none, z.dew_eq_some⟩, fun x y => marginOf_unknown, fun a d low high => ?_, fun a d high => ?_,
    fun a d low => ?_, ⟨rfl, rfl, fun m => ⟨outcomeOf_above, outcomeOf_below⟩⟩,
    fun z x => ⟨fun unknown => ?_, fun m known => ?_⟩⟩
  · rw [marginOf_some, saturate_inside low high]
  · rw [marginOf_some, saturate_above high]
  · rw [marginOf_some, saturate_below low]
  · rw [z.projected_eq, unknown, Option.map_none]
  · have projected : z.projected x = some (projectFrom m z.slope z.lookahead) := by
      rw [z.projected_eq, known, Option.map_some]
    obtain ⟨low, high⟩ := marginOf_bounds known
    obtain ⟨lowered, above⟩ := projectFrom_bounds low z.slope z.lookahead
    refine ⟨fun still => ?_, fun v slope up ahead => ?_, _, projected, lowered, above, high⟩
    · rw [projected, projectFrom_still still]
    · rw [projected, slope, projectFrom_rising up ahead]
      exact ⟨fun inside => by rw [max_eq_right inside], fun below => by rw [max_eq_left below.le]⟩

end Sys2Proof.Machine

/-! SUPPORT. The candidate level, row by row of its table (R118). -/

namespace Sys2Proof.Machine

open Sys2Proof

section
variable {t : Thresholds} {m p : Int}

theorem candidateOf_condensing (low : m ≤ 0) : candidateOf t m p = .condensing := if_pos low

theorem candidateOf_risk (pos : 0 < m) (below : m < t.k) : candidateOf t m p = .risk := by
  rw [candidateOf, if_neg pos.not_ge, if_pos below]

/-- From K on, the candidate is chosen between WATCH and CLEAR. -/
theorem candidateOf_from_k (pos : 0 < m) (reached : t.k ≤ m) :
    candidateOf t m p = if m < t.w ∨ p < t.k then .watch else .clear := by
  rw [candidateOf, if_neg pos.not_ge, if_neg reached.not_gt]

theorem candidateOf_watch (pos : 0 < m) (reached : t.k ≤ m) (near : m < t.w ∨ p < t.k) :
    candidateOf t m p = .watch := by
  rw [candidateOf_from_k pos reached, if_pos near]

theorem candidateOf_clear (pos : 0 < m) (reached : t.k ≤ m) (wide : t.w ≤ m) (ahead : t.k ≤ p) :
    candidateOf t m p = .clear := by
  rw [candidateOf_from_k pos reached, if_neg (not_or.mpr ⟨wide.not_gt, ahead.not_gt⟩)]

/-- RISK and CONDENSING are chosen by the margin alone. -/
theorem candidateOf_raised_iff :
    candidateOf t m p = .risk ∨ candidateOf t m p = .condensing ↔ m ≤ 0 ∨ m < t.k := by
  constructor
  · intro raised
    by_contra high
    obtain ⟨pos, reached⟩ : 0 < m ∧ t.k ≤ m := by simpa using high
    rw [candidateOf_from_k pos reached] at raised
    split at raised <;> simp at raised
  · rintro (low | below)
    · exact .inr (candidateOf_condensing low)
    · obtain low | pos := le_or_gt m 0
      · exact .inr (candidateOf_condensing low)
      · exact .inl (candidateOf_risk pos below)

/-- Up to zero or under K the projection has no say. -/
theorem candidateOf_ignores_projection (h : m ≤ 0 ∨ m < t.k) (q : Int) : candidateOf t m q = candidateOf t m p := by
  obtain low | pos := le_or_gt m 0
  · rw [candidateOf_condensing low, candidateOf_condensing low]
  · have below : m < t.k := h.resolve_left pos.not_ge
    rw [candidateOf_risk pos below, candidateOf_risk pos below]

end

/-- Settles O49: the table's four rows, and a raised candidate says the margin is where the projection has no say. -/
theorem candidateFollowsTheThresholds : Obligations.CandidateFollowsTheThresholds := by
  unfold Obligations.CandidateFollowsTheThresholds
  exact fun t m p => ⟨candidateOf_condensing, candidateOf_risk, candidateOf_watch, candidateOf_clear,
    fun q raised => candidateOf_ignores_projection (candidateOf_raised_iff.mp raised) q⟩

end Sys2Proof.Machine

/-! SUPPORT. The command that replaces the alert set (R149, R150). -/

namespace Sys2Proof.Machine

open Sys2Proof

/-! ## The alert set and the ALERT line -/

/-- The bits the range mask tests are those of CLEAR, DORMANT and the values outside the six states (R187). -/
theorem alertSetMask_iff {k : Nat} (small : k < 8) :
    (0b11000101#8).getLsbD k = true ↔ ¬ (k = 1 ∨ k = 3 ∨ k = 4 ∨ k = 5) := by
  interval_cases k <;> decide

/-- A set in range names only BLIND, WATCH, RISK and CONDENSING (R150). -/
theorem alertSetInRange_iff (set : Byte) :
    alertSetInRange set = true ↔ ∀ k, set.getLsbD k = true → k = 1 ∨ k = 3 ∨ k = 4 ∨ k = 5 := by
  rw [alertSetInRange, beq_iff_eq]
  constructor
  · intro apart k named
    by_contra outside
    have tested := (alertSetMask_iff (BitVec.lt_of_getLsbD named)).mpr outside
    have bit : (set &&& 0b11000101#8).getLsbD k = true := by rw [BitVec.getLsbD_and, named, tested]; rfl
    rw [apart] at bit
    simp at bit
  · intro inside
    refine BitVec.eq_of_getLsbD_eq fun k small => ?_
    cases named : set.getLsbD k with
    | false => simp [named]
    | true =>
      have untested : (0b11000101#8).getLsbD k = false :=
        Bool.eq_false_iff.mpr fun tested => (alertSetMask_iff small).mp tested (inside k named)
      rw [BitVec.getLsbD_and, untested, Bool.and_false]
      exact BitVec.getLsbD_zero.symm

/-- The line's meaning: some enabled zone stands in a state of the alert set (R149). -/
theorem State.alertNow_iff (s : State) :
    s.alertNow = true ↔ ∃ z, (s.zone z).enabled = true ∧ s.alertSet.getLsbD (s.zone z).state.code = true := by
  simp [State.alertNow, allZones]

theorem flag_eq (b : Bool) : flag b = [if b = true then 1 else 0] := by cases b <;> rfl

/-! ## SET ALERT -/

theorem setAlert_outOfRange {set : Byte} (out : ¬ alertSetInRange set = true) (s : State) :
    setAlert [set] s = refuse .range s :=
  (sized_right rfl s _).trans (if_neg out)

theorem setAlert_inRange {set : Byte} (inside : alertSetInRange set = true) (s : State) :
    setAlert [set] s =
      done ([set] ++ flag { s with alertSet := set }.alertNow) (State.refreshAlert { s with alertSet := set }) :=
  (sized_right rfl s _).trans (if_pos inside)

/-- Settles O40: the range of the set decides between the refusal and the replaced set, whose line is the one re-evaluated. -/
theorem setAlertReplacesTheSet : Obligations.SetAlertReplacesTheSet := by
  unfold Obligations.SetAlertReplacesTheSet
  intro s u h set
  refine ⟨fun ⟨k, named, not_blind, not_watch, not_risk, not_condensing⟩ => ?_, fun inside => ?_⟩
  · have out : ¬ alertSetInRange set = true := fun fits => by
      have := (alertSetInRange_iff set).mp fits k named
      omega
    exact commandRow_refused h 27 [set] (setAlert_outOfRange out u)
  · refine ⟨{ u with alertSet := set }.alertNow, State.alertNow_iff _, ?_⟩
    rw [← flag_eq]
    exact commandRow_done h 27 [set] rfl (setAlert_inRange ((alertSetInRange_iff set).mpr inside) u)

end Sys2Proof.Machine

/-! SUPPORT. What a command can do to the part: one inversion of the 29 judgements, from which every law that commands keep is
derived. -/

namespace Sys2Proof.Machine

open Sys2Proof

/-- The states a command can leave, before its RESPONSE is placed: one constructor per effect of spec/10's command set, with what
the judgement has checked by then. -/
inductive CommandEffect (s : State) : State → Prop
  | nothing : CommandEffect s s
  | restartEvaluation : CommandEffect s s.restartEvaluation
  | restartFull : CommandEffect s s.restartFull
  | loadNew (p : ProbeLoad) (range : p.inRange = true) (absent : s.findProbe p.address = none)
      (room : s.probes.length < Config.probeRoom) :
      CommandEffect s (s.setProbes (insertProbe (p.fresh s.counter) s.probes))
  | loadOver (p : ProbeLoad) (old : ProbeEntry) (range : p.inRange = true) (present : s.findProbe p.address = some old) :
      CommandEffect s (s.setProbes (insertProbe (p.fresh s.counter) s.probes))
  | loadDisturbing (p : ProbeLoad) (old : ProbeEntry) (range : p.inRange = true)
      (present : s.findProbe p.address = some old) :
      CommandEffect s ((s.setProbes (insertProbe (p.fresh s.counter) s.probes)).evaluate old.load.zone)
  | dropEntry (a : Byte) (e : ProbeEntry) (present : s.findProbe a = some e) : CommandEffect s (s.dropEntry e)
  | setZone (z : Fin 24) (a i l g : Nat) (range : zoneConfigInRange a i l g = true) :
      CommandEffect s (s.setZone z ((s.zone z).configure s.counter a i l g))
  | stageThresholds (z : Fin 24) (t : Thresholds) (range : t.inRange = true) :
      CommandEffect s (s.setZone z { s.zone z with staged := some t })
  | enableZone (z : Fin 24) (off : (s.zone z).enabled = false) :
      CommandEffect s (s.applyDecision z ((s.zone z).enable s.counter (s.surfaceMin z)))
  | disableZone (z : Fin 24) (on : (s.zone z).enabled = true) :
      CommandEffect s (s.applyDecision z ((s.zone z).disable (s.surfaceMin z)))
  | clearWindow (z : Fin 24) (on : (s.zone z).enabled = true) :
      CommandEffect s ((s.setZone z (s.zone z).emptyWindow).evaluate z)
  | curveBegin (base : Int) (step n : Nat) (range : curveInRange base step n = true) :
      CommandEffect s { s with staging := .filling base step n [] }
  | curvePoints (base : Int) (step n : Nat) (old new : List Nat) (filling : s.staging = .filling base step n old)
      (fit : old.length + new.length ≤ n) (values : ∀ v ∈ new, 1 ≤ v ∧ v ≤ 65535) :
      CommandEffect s { s with staging := stage base step n (old ++ new) }
  | curveCommit (base : Int) (step n : Nat) (vs : List Nat) (full : s.staging = .full base step n vs)
      (order : firstUnordered vs = none) :
      CommandEffect s { s with curve := { base := base, step := step, values := vs }, staging := .empty }
  | restoreCurve : CommandEffect s { s with curve := Curve.builtIn }
  | setArithmetic (mode : Rounding) (masked : Conditions) :
      CommandEffect s
        { s with
          arith := { mode := mode, masked := masked }
          deferred := deferredAfter s.arith.masked masked s.sticky s.deferred }
  | clearSticky : CommandEffect s { s with sticky := 0, deferred := 0 }
  | setOutput (i : Fin 4) (enabled : Bool) (zones : BitVec 24) (band period fallback : Nat) (polarity : Polarity)
      (range : 50 ≤ band ∧ band ≤ 3000 ∧ 10 ≤ period ∧ period ≤ 6000 ∧ fallback ≤ 6000) :
      CommandEffect s
        (s.applyOutput i
          { s.output i with
            enabled := enabled, zones := zones, band := band, period := period, fallback := fallback
            polarity := polarity })
  | setOutputMode (i : Fin 4) (mode : OutputMode) (manual : Nat) (range : manual ≤ 6000) :
      CommandEffect s (s.setOutput i { s.output i with mode := mode, manual := manual })
  | setWetInput (i : Fin 4) (zone : Option (Fin 24)) (level : Bool) (qualify : Nat) (selection : Selection)
      (range : qualify ≤ 50) :
      CommandEffect s
        ((s.setWetInput i ((s.wetInput i).configure s.counter zone level qualify selection)).recomputeFlags
          ((s.wetInput i).affected ((s.wetInput i).configure s.counter zone level qualify selection)))
  | setAlert (set : Byte) (range : alertSetInRange set = true) :
      CommandEffect s (State.refreshAlert { s with alertSet := set })
  | armNotices : CommandEffect s { s with noticeArmed := s.noticePending }
  | acknowledgeNotices :
      CommandEffect s
        { s with noticePending := s.noticePending.without s.noticeArmed, noticeArmed := NoticeSets.none }

/-! ## The judgement of each command -/

/-- A judgement that only further conditions can refuse. -/
theorem sized_effect {n : Nat} {f : List Byte} {s : State} {a : Answer} (h : CommandEffect s a.state) :
    CommandEffect s (sized n f s a).state := by
  unfold sized
  split
  · exact h
  · exact .nothing

theorem withZone_effect {n : Nat} {s : State} {k : Fin 24 → Answer} (h : ∀ z, CommandEffect s (k z).state) :
    CommandEffect s (withZone n s k).state := by
  unfold withZone
  split
  · exact h _
  · exact .nothing

theorem withUnit_effect {n : Nat} {s : State} {k : Fin 4 → Answer} (h : ∀ i, CommandEffect s (k i).state) :
    CommandEffect s (withUnit n s k).state := by
  unfold withUnit
  split
  · exact h _
  · exact .nothing

theorem readLoad_inRange {f : List Byte} {p : ProbeLoad} (h : readLoad f = some p) : p.inRange = true := by
  unfold readLoad at h
  split at h
  · simp only [Option.ite_none_right_eq_some, Option.some.injEq] at h
    obtain ⟨range, rfl⟩ := h
    exact range
  · cases h

theorem restart_effect (f : List Byte) (s : State) : CommandEffect s (restart f s).state := by
  refine sized_effect ?_
  split
  · dsimp only [done]
    exact .restartEvaluation
  · exact .restartFull
  · exact .nothing

theorem loadProbe_effect (f : List Byte) (s : State) : CommandEffect s (loadProbe f s).state := by
  refine sized_effect ?_
  split
  · exact .nothing
  case _ p read =>
    have range := readLoad_inRange read
    dsimp only
    split
    case _ absent =>
      split
      case isTrue room => exact .loadNew p range absent room
      case isFalse => exact .nothing
    case _ old present =>
      show CommandEffect s (if old.disturbed p = true then _ else _)
      split
      · exact .loadDisturbing p old range present
      · exact .loadOver p old range present

theorem dropProbe_effect (f : List Byte) (s : State) : CommandEffect s (dropProbe f s).state := by
  refine sized_effect ?_
  dsimp only
  split
  · split
    · exact .nothing
    case _ e present => exact .dropEntry _ e present
  · exact .nothing

theorem readProbe_effect (f : List Byte) (s : State) : CommandEffect s (readProbe f s).state := by
  refine sized_effect ?_
  dsimp only
  split
  · split <;> exact .nothing
  · exact .nothing

theorem listProbes_effect (f : List Byte) (s : State) : CommandEffect s (listProbes f s).state := by
  refine sized_effect ?_
  split <;> exact .nothing

theorem setZone_effect (f : List Byte) (s : State) : CommandEffect s (setZone f s).state := by
  refine sized_effect (withZone_effect fun z => ?_)
  dsimp only
  split
  case isTrue range => exact .setZone z _ _ _ _ range
  case isFalse => exact .nothing

theorem stageThresholds_effect (f : List Byte) (s : State) : CommandEffect s (stageThresholds f s).state := by
  refine sized_effect (withZone_effect fun z => ?_)
  dsimp only
  split
  case isTrue range => exact .stageThresholds z _ range
  case isFalse => exact .nothing

theorem enableZone_effect (f : List Byte) (s : State) : CommandEffect s (enableZone f s).state := by
  refine sized_effect (withZone_effect fun z => ?_)
  split
  · exact .nothing
  case isFalse off => exact .enableZone z (by simpa using off)

theorem disableZone_effect (f : List Byte) (s : State) : CommandEffect s (disableZone f s).state := by
  refine sized_effect (withZone_effect fun z => ?_)
  split
  case isTrue on => exact .disableZone z on
  · exact .nothing

theorem clearWindow_effect (f : List Byte) (s : State) : CommandEffect s (clearWindow f s).state := by
  refine sized_effect (withZone_effect fun z => ?_)
  show CommandEffect s (if (s.zone z).enabled = true then _ else _)
  split
  case isTrue on => exact .clearWindow z on
  · exact .nothing

theorem curveBegin_effect (f : List Byte) (s : State) : CommandEffect s (curveBegin f s).state := by
  refine sized_effect ?_
  dsimp only
  split
  case isTrue range => exact .curveBegin _ _ _ range
  case isFalse => exact .nothing

theorem curvePoints_effect (f : List Byte) (s : State) : CommandEffect s (curvePoints f s).state := by
  unfold curvePoints
  split
  · dsimp only
    split
    · exact .nothing
    case isFalse range =>
      split
      case _ base step n old filling =>
        split
        case isTrue fit =>
          refine .curvePoints base step n old _ filling (fit.1 ▸ fit.2) fun v member => ?_
          obtain ⟨i, _, rfl⟩ := List.mem_map.mp member
          have nonzero : u16 f (1 + 2 * i) ≠ 0 := fun zero =>
            range (.inr (List.any_eq_true.mpr ⟨_, member, by simpa using zero⟩))
          have := u16_lt f (1 + 2 * i)
          omega
        case isFalse => exact .nothing
      · exact .nothing
  · exact .nothing

theorem curveCommit_effect (f : List Byte) (s : State) : CommandEffect s (curveCommit f s).state := by
  refine sized_effect ?_
  split
  case _ base step n vs full =>
    split
    · exact .nothing
    case _ order => exact .curveCommit base step n vs full order
  · exact .nothing

theorem readCurve_effect (f : List Byte) (s : State) : CommandEffect s (readCurve f s).state := by
  refine sized_effect ?_
  dsimp only
  split <;> exact .nothing

theorem setArithmetic_effect (f : List Byte) (s : State) : CommandEffect s (setArithmetic f s).state := by
  refine sized_effect ?_
  split
  case _ mode masked _ _ => exact .setArithmetic mode masked
  · exact .nothing

theorem setOutput_effect (f : List Byte) (s : State) : CommandEffect s (setOutput f s).state := by
  refine sized_effect (withUnit_effect fun i => ?_)
  split
  case _ enabled polarity _ _ =>
    dsimp only
    split
    case isTrue range => exact .setOutput i enabled _ _ _ _ polarity range
    case isFalse => exact .nothing
  · exact .nothing

theorem setOutputMode_effect (f : List Byte) (s : State) : CommandEffect s (setOutputMode f s).state := by
  refine sized_effect (withUnit_effect fun i => ?_)
  split
  case _ mode _ =>
    dsimp only
    split
    case isTrue range => exact .setOutputMode i mode _ range
    case isFalse => exact .nothing
  · exact .nothing

theorem setWetInput_effect (f : List Byte) (s : State) : CommandEffect s (setWetInput f s).state := by
  refine sized_effect (withUnit_effect fun i => ?_)
  split
  case _ zone level selection _ _ _ =>
    split
    case isTrue range => exact .setWetInput i zone level _ selection range
    case isFalse => exact .nothing
  · exact .nothing

theorem setAlert_effect (f : List Byte) (s : State) : CommandEffect s (setAlert f s).state := by
  refine sized_effect ?_
  dsimp only
  split
  case isTrue range => exact .setAlert _ range
  case isFalse => exact .nothing

theorem noticeRead_effect (f : List Byte) (s : State) : CommandEffect s (noticeRead f s).state := by
  refine sized_effect ?_
  split
  · exact .nothing
  · exact .armNotices
  · exact .nothing

/-- What a command of any code can do. -/
theorem commandAnswer_effect (code : Nat) (f : List Byte) (s : State) : CommandEffect s (commandAnswer code f s).state := by
  unfold commandAnswer
  split
  · exact sized_effect .nothing
  · exact restart_effect f s
  · exact loadProbe_effect f s
  · exact dropProbe_effect f s
  · exact readProbe_effect f s
  · exact listProbes_effect f s
  · exact setZone_effect f s
  · exact stageThresholds_effect f s
  · exact enableZone_effect f s
  · exact disableZone_effect f s
  · exact sized_effect (withZone_effect fun _ => .nothing)
  · exact sized_effect (withZone_effect fun _ => .nothing)
  · exact clearWindow_effect f s
  · exact curveBegin_effect f s
  · exact curvePoints_effect f s
  · exact curveCommit_effect f s
  · exact sized_effect .restoreCurve
  · exact readCurve_effect f s
  · exact setArithmetic_effect f s
  · exact sized_effect .nothing
  · exact sized_effect .clearSticky
  · exact setOutput_effect f s
  · exact setOutputMode_effect f s
  · exact sized_effect (withUnit_effect fun _ => .nothing)
  · exact setWetInput_effect f s
  · exact sized_effect .nothing
  · exact setAlert_effect f s
  · exact noticeRead_effect f s
  · exact sized_effect .acknowledgeNotices
  · exact .nothing

/-- `v` is `u` after a command has been judged, carried out and answered. -/
def Ran (u v : State) : Prop := ∃ (code : Byte) (a : Answer), CommandEffect u a.state ∧ v = State.place u.ownAddress code a

theorem runCommand_ran (u : State) (payload : List Byte) : Ran u (u.runCommand payload) := by
  cases payload with
  | nil => exact ⟨0, refuse .length u, .nothing, rfl⟩
  | cons code f => exact ⟨code, _, commandAnswer_effect code.toNat f u, rfl⟩

end Sys2Proof.Machine

/-! SUPPORT. How a law of the part is carried through every command: by the expiries that R26 makes next, by the end of a count,
and by the row of the command itself. -/

namespace Sys2Proof.Machine

open Sys2Proof

/-! ## Deadlines that may expire -/

/-- What is due at once may expire, whatever the counter. -/
theorem deadlineExpired_of_due {d : Deadline} (h : deadlineDue d = true) (now : Stamp) : deadlineExpired d now = true := by
  cases d with
  | none => cases h
  | some a =>
    have due : a.due = true := h
    simp [deadlineExpired, Arming.expired, due]

theorem deadlineExpired_some {a : Arming} {now : Stamp} : deadlineExpired (some a) now = a.expired now := rfl

theorem isSome_of_expired {d : Deadline} {now : Stamp} (h : deadlineExpired d now = true) : d.isSome = true := by
  cases d with
  | none => cases h
  | some a => rfl

/-! ## Laws that expiries keep -/

/-- Every expiry that R26 can make next keeps a property, where its deadline has expired. -/
structure SettleLaw (P : State → Prop) : Prop where
  silence : ∀ {s a}, P s → deadlineExpired (s.silenceDeadline a) s.counter = true → P (s.takeSilence a)
  slot : ∀ {s z k}, P s → deadlineExpired (s.slotDeadline z k) s.counter = true → P (s.takeSlot z k)
  persistence : ∀ {s z}, P s → deadlineExpired (s.persistenceDeadline z) s.counter = true → P (s.takePersistence z)
  blind : ∀ {s z}, P s → deadlineExpired (s.zone z).blind s.counter = true → P (s.takeBlind z)
  qualification : ∀ {s i}, P s → deadlineExpired (s.wetInput i).deadline s.counter = true → P (s.takeQualification i)

/-- So does every expiry that a count can reach, and the end of a duty. -/
structure CountLaw (P : State → Prop) : Prop extends SettleLaw P where
  trend : ∀ {s z}, P s → deadlineExpired (s.zone z).trendDeadline s.counter = true → P (s.takeTrend z)
  boundary : ∀ {s i}, P s → deadlineExpired (s.output i).boundary s.counter = true → P (s.takeBoundary i)
  duty : ∀ {s i}, P s → P (s.dutyEnd i)

section Settle

variable {P : State → Prop} (law : SettleLaw P)
include law

omit law in
theorem takeIfDue_keeps_law {d : State → Deadline} {take : State → State}
    (keep : ∀ s, P s → deadlineExpired (d s) s.counter = true → P (take s)) (s : State) (h : P s) :
    P (s.takeIfDue (fun u => deadlineDue (d u)) take) := by
  obtain ⟨due, e⟩ | ⟨_, e⟩ := s.takeIfDue_cases (fun u => deadlineDue (d u)) take
  · rw [e]
    exact keep s h (deadlineExpired_of_due due _)
  · rwa [e]

theorem SettleLaw.takeDueZone (s : State) (z : Fin 24) (h : P s) : P (s.takeDueZone z) := by
  unfold State.takeDueZone
  refine takeIfDue_keeps_law (fun _ => law.blind) _ (takeIfDue_keeps_law (fun _ => law.persistence) _ ?_)
  exact foldl_keeps P (fun t _ => takeIfDue_keeps_law (fun _ => law.slot) t) _ s h

theorem SettleLaw.takeDueZones (s : State) (h : P s) : P s.takeDueZones := foldl_keeps P law.takeDueZone _ s h

theorem SettleLaw.takeDue (s : State) (h : P s) : P s.takeDue := by
  unfold State.takeDue
  refine foldl_keeps P (fun t a => takeIfDue_keeps_law (d := fun u => u.silenceDeadline a) (fun u hu due => ?_) t) _ _
    (foldl_keeps P (fun t i => takeIfDue_keeps_law (d := fun u => (u.wetInput i).deadline) (fun u hu due => ?_) t) _ _
      (law.takeDueZones s h))
  · exact law.takeDueZones _ (law.silence hu due)
  · exact law.takeDueZones _ (law.qualification hu due)

/-- What the expiries keep, R26 keeps. -/
theorem SettleLaw.settle (s : State) (h : P s) : P s.settle := by
  unfold State.settle
  split
  · exact h
  · exact law.takeDue s h

theorem SettleLaw.takeIfReached {d : State → Deadline} {take : State → State}
    (keep : ∀ s, P s → deadlineExpired (d s) s.counter = true → P (take s)) (s : State) (h : P s) :
    P (s.takeIfReached d take) := by
  obtain ⟨reached, e⟩ | ⟨_, e⟩ := s.takeIfReached_cases d take
  · rw [e]
    exact law.settle _ (keep s h reached)
  · rwa [e]

end Settle

section Count

variable {P : State → Prop} (law : CountLaw P)
include law

theorem CountLaw.takeReachedZone (s : State) (z : Fin 24) (h : P s) : P (s.takeReachedZone z) := by
  unfold State.takeReachedZone
  refine law.takeIfReached (fun _ => law.blind) _ (law.takeIfReached (fun _ => law.persistence) _
    (law.takeIfReached (fun _ => law.trend) _ ?_))
  exact foldl_keeps P (fun t _ => law.takeIfReached (fun _ => law.slot) t) _ s h

/-- What the expiries keep, the end of a count keeps (R27). -/
theorem CountLaw.finishCount (s : State) (h : P s) : P s.finishCount := by
  unfold State.finishCount
  split
  · exact h
  · unfold State.takeReached
    refine foldl_keeps P (fun t _ ht => law.duty (law.takeIfReached (fun _ => law.boundary) t ht)) _ _
      (foldl_keeps P law.takeReachedZone _ _ (foldl_keeps P (fun t _ => law.takeIfReached (fun _ => law.silence) t) _ _
        (foldl_keeps P (fun t _ => law.takeIfReached (fun _ => law.qualification) t) _ s h)))

/-- A property that also outlives the count itself is kept by a TICK. -/
theorem CountLaw.tick (count : ∀ s, P s → P { s with counter := s.counter + 1 }) (s : State) (h : P s) : P s.tick :=
  count _ (law.finishCount s h)

end Count

/-! ## Laws that every row keeps -/

/-- Every whole event keeps a property; the ticks and the resets are left to `EventLaw.exec`. -/
structure EventLaw (P : State → Prop) : Prop extends CountLaw P where
  command : ∀ {s payload run}, P s → (∀ u, Ran u (run u)) → P (State.takeCommand payload run s)
  classify : ∀ {s : State}, P s → P s.takeHead.arbitrate
  wetLevel : ∀ {s i high}, P s → P (State.wetLevel i high s)
  fieldArrival : ∀ {s w}, P s → P (State.fieldArrival w s)
  fieldStrobeFall : ∀ {s}, P s → P (State.fieldStrobeFall s)
  fieldTimeout : ∀ {s}, P s → P (State.fieldTimeout s)
  fieldAckRise : ∀ {s}, P s → P (State.fieldAckRise s)
  fieldAckFall : ∀ {s}, P s → P (State.fieldAckFall s)
  fieldAllowance : ∀ {s}, P s → P (State.fieldAllowance s)
  stationArrival : ∀ {s w}, P s → P (State.stationArrival w s)
  stationStrobeFall : ∀ {s}, P s → P (State.stationStrobeFall s)
  stationTimeout : ∀ {s}, P s → P (State.stationTimeout s)
  stationAckRise : ∀ {s}, P s → P (State.stationAckRise s)
  stationAckFall : ∀ {s}, P s → P (State.stationAckFall s)
  stationAllowance : ∀ {s}, P s → P (State.stationAllowance s)
  heldFieldRise : ∀ {s : State}, s.resetLow = true → P s → P { s with fieldRx := s.fieldRx.rise }
  heldStationRise : ∀ {s : State}, s.resetLow = true → P s → P { s with stationRx := s.stationRx.rise }
  heldFieldAck : ∀ {s : State} {b}, s.resetLow = true → P s → P { s with fieldTx := { s.fieldTx with ack := b } }
  heldStationAck : ∀ {s : State} {b}, s.resetLow = true → P s → P { s with stationTx := { s.stationTx with ack := b } }
  heldWetPin : ∀ {s i b}, s.resetLow = true → P s → P (State.wetPin i b s)

/-- POWER_ON, PIN_RESET and PIN_RESET_RELEASE: the rows that put the part at its power-on values. -/
def resetRow : Instr → Bool
  | .powerOn _ => true
  | .pinReset => true
  | .pinResetRelease _ => true
  | _ => false

section Rows

variable {P : State → Prop} (law : EventLaw P) {s : State} (h : P s)
include law h

theorem EventLaw.event {take : State → State} (keep : ∀ t, P t → P (take t)) :
    ∃ t, Machine.event s take = .next t ∧ P t := by
  refine ⟨_, event_next s take, ?_⟩
  split
  · exact h
  · exact keep _ (law.settle s h)

theorem EventLaw.pinEvent {held take : State → State} (low : s.resetLow = true → P (held s))
    (keep : ∀ t, P t → P (take t)) : ∃ t, Machine.pinEvent s held take = .next t ∧ P t := by
  refine ⟨_, pinEvent_next s held take, ?_⟩
  split
  case isTrue held => exact low held
  case isFalse => exact keep _ (law.settle s h)

theorem EventLaw.expiryEvent {d : State → Deadline} {take : State → State}
    (keep : ∀ t, P t → deadlineExpired (d t) t.counter = true → P (take t)) :
    ∃ t, Machine.expiryEvent s d take = .next t ∧ P t := by
  refine law.event h fun t ht => ?_
  split
  case isTrue expired => exact keep t ht expired
  case isFalse => exact ht

theorem EventLaw.slotExpiry (z : Fin 24) (k : Fin 8) : ∃ t, execSlotExpiry z k s = .next t ∧ P t := by
  unfold execSlotExpiry
  split
  case isTrue due =>
    simp only [Bool.and_eq_true] at due
    exact ⟨_, rfl, law.slot h (deadlineExpired_of_due due.2 _)⟩
  case isFalse => exact law.expiryEvent h fun _ => law.slot

theorem EventLaw.commandRow (code : Nat) (fields : List Byte) {answer : State → Answer}
    (effect : ∀ u, CommandEffect u (answer u).state) : ∃ t, Machine.commandRow code fields answer s = .next t ∧ P t :=
  law.event h fun _ ht => law.command ht fun u => ⟨_, answer u, effect u, rfl⟩

/-- A law that every event keeps is kept by every row: a TICK and the resets are asked for only where the row is one. -/
theorem EventLaw.exec (c : Instr) (tick : c = .tick → ∀ t, P t → P t.tick)
    (cold : resetRow c = true → ∀ own low, P (s.coldStart own low)) : ∃ t, Machine.exec c s = .next t ∧ P t := by
  cases c with
  | tick => exact law.event h (tick rfl)
  | fieldSymbolArrival w =>
    exact law.pinEvent h (held := fun t => { t with fieldRx := t.fieldRx.rise })
      (fun low => law.heldFieldRise low h) fun _ => law.fieldArrival
  | fieldInterSymbolTimeout => exact law.event h fun _ => law.fieldTimeout
  | fieldSymbolAcknowledged =>
    exact law.pinEvent h (held := fun t => { t with fieldTx := { t.fieldTx with ack := true } })
      (fun low => law.heldFieldAck low h) fun _ => law.fieldAckRise
  | fieldAllowanceExpiry => exact law.event h fun _ => law.fieldAllowance
  | classifierTakeHead => exact law.event h fun _ => law.classify
  | silenceExpiry a => exact law.expiryEvent h fun _ => law.silence
  | slotExpiry z k => exact law.slotExpiry h z k
  | trendExpiry z => exact law.expiryEvent h fun _ => law.trend
  | persistenceExpiry z => exact law.expiryEvent h fun _ => law.persistence
  | blindExpiry z => exact law.expiryEvent h fun _ => law.blind
  | wetLevelChange i high => exact law.pinEvent h (fun low => law.heldWetPin low h) fun _ => law.wetLevel
  | qualificationExpiry i => exact law.expiryEvent h fun _ => law.qualification
  | periodBoundary i => exact law.expiryEvent h fun _ => law.boundary
  | dutyEnd i => exact law.event h fun _ => law.duty
  | stationSymbolArrival w =>
    exact law.pinEvent h (held := fun t => { t with stationRx := t.stationRx.rise })
      (fun low => law.heldStationRise low h) fun _ => law.stationArrival
  | stationInterSymbolTimeout => exact law.event h fun _ => law.stationTimeout
  | stationSymbolAcknowledged =>
    exact law.pinEvent h (held := fun t => { t with stationTx := { t.stationTx with ack := true } })
      (fun low => law.heldStationAck low h) fun _ => law.stationAckRise
  | stationAllowanceExpiry => exact law.event h fun _ => law.stationAllowance
  | powerOn a => exact ⟨_, rfl, cold rfl _ _⟩
  | pinReset =>
    refine ⟨_, rfl, ?_⟩
    split
    · exact h
    · exact cold rfl _ _
  | pinResetRelease a =>
    refine ⟨_, rfl, ?_⟩
    split
    · exact cold rfl _ _
    · exact h
  | unknownCommand p => exact law.event h fun _ ht => law.command ht fun u => runCommand_ran u p
  | readTime f => exact law.commandRow h 1 f (commandAnswer_effect 1 f)
  | restartEvaluation f => exact law.commandRow h 2 f (commandAnswer_effect 2 f)
  | restartFull f => exact law.commandRow h 2 f (commandAnswer_effect 2 f)
  | loadProbe f => exact law.commandRow h 3 f (commandAnswer_effect 3 f)
  | dropProbe f => exact law.commandRow h 4 f (commandAnswer_effect 4 f)
  | readProbe f => exact law.commandRow h 5 f (commandAnswer_effect 5 f)
  | listProbes f => exact law.commandRow h 6 f (commandAnswer_effect 6 f)
  | setZone f => exact law.commandRow h 7 f (commandAnswer_effect 7 f)
  | stageThresholds f => exact law.commandRow h 8 f (commandAnswer_effect 8 f)
  | enableZone f => exact law.commandRow h 9 f (commandAnswer_effect 9 f)
  | disableZone f => exact law.commandRow h 10 f (commandAnswer_effect 10 f)
  | readZone f => exact law.commandRow h 11 f (commandAnswer_effect 11 f)
  | readWindow f => exact law.commandRow h 12 f (commandAnswer_effect 12 f)
  | clearWindow f => exact law.commandRow h 13 f (commandAnswer_effect 13 f)
  | curveBegin f => exact law.commandRow h 14 f (commandAnswer_effect 14 f)
  | curvePoints f => exact law.commandRow h 15 f (commandAnswer_effect 15 f)
  | curveCommit f => exact law.commandRow h 16 f (commandAnswer_effect 16 f)
  | restoreCurve f => exact law.commandRow h 17 f (commandAnswer_effect 17 f)
  | readCurve f => exact law.commandRow h 18 f (commandAnswer_effect 18 f)
  | setArithmetic f => exact law.commandRow h 19 f (commandAnswer_effect 19 f)
  | readArithmetic f => exact law.commandRow h 20 f (commandAnswer_effect 20 f)
  | clearSticky f => exact law.commandRow h 21 f (commandAnswer_effect 21 f)
  | setOutput f => exact law.commandRow h 22 f (commandAnswer_effect 22 f)
  | setOutputMode f => exact law.commandRow h 23 f (commandAnswer_effect 23 f)
  | readOutput f => exact law.commandRow h 24 f (commandAnswer_effect 24 f)
  | setWetInput f => exact law.commandRow h 25 f (commandAnswer_effect 25 f)
  | readWetInputs f => exact law.commandRow h 26 f (commandAnswer_effect 26 f)
  | setAlert f => exact law.commandRow h 27 f (commandAnswer_effect 27 f)
  | readNotices f => exact law.commandRow h 28 f (commandAnswer_effect 28 f)
  | peekNotices f => exact law.commandRow h 28 f (commandAnswer_effect 28 f)
  | acknowledgeNotices f => exact law.commandRow h 29 f (commandAnswer_effect 29 f)
  | fieldReceiveStrobeFall => exact law.pinEvent h (fun _ => law.fieldStrobeFall h) fun _ => law.fieldStrobeFall
  | stationReceiveStrobeFall => exact law.pinEvent h (fun _ => law.stationStrobeFall h) fun _ => law.stationStrobeFall
  | fieldTransmitAckFall =>
    exact law.pinEvent h (held := fun t => { t with fieldTx := { t.fieldTx with ack := false } })
      (fun low => law.heldFieldAck low h) fun _ => law.fieldAckFall
  | stationTransmitAckFall =>
    exact law.pinEvent h (held := fun t => { t with stationTx := { t.stationTx with ack := false } })
      (fun low => law.heldStationAck low h) fun _ => law.stationAckFall

end Rows

/-- A law that the queue of waiting commands has no part in is kept by every step. -/
theorem EventLaw.step {P : State → Prop} (law : EventLaw P) (queue : ∀ s l, P s → P { s with pending := l })
    (tick : ∀ t, P t → P t.tick) (cold : ∀ s own low, P s → P (s.coldStart own low)) {s t : State} (h : P s)
    (e : Machine.step s = .next t) : P t := by
  unfold Machine.step at e
  split at e
  · cases e
    exact h
  case _ c rest _ =>
    have h' := queue s rest h
    obtain ⟨t', e', ht⟩ := law.exec h' c (fun _ => tick) fun _ own low => cold _ own low h'
    cases e.symm.trans e'
    exact ht

end Sys2Proof.Machine

/-! SUPPORT. The two sides of the part. Traffic on the lines moves queues, assemblers and transmitters and leaves the tables, the
settings and the notices alone; a law of the tables is therefore kept by every row once the operations on the tables keep it. -/

namespace Sys2Proof.Machine

open Sys2Proof

/-! ## The side that line traffic leaves alone -/

/-- The part with its line side blanked: frame queues, assemblers, receive and transmit pairs, and the response slot. The verdict
queue, which evaluations fill, stays. -/
def State.tableSide (s : State) : State :=
  { State.reset with
    pending := s.pending, resetLow := s.resetLow, counter := s.counter, ownAddress := s.ownAddress, verdicts := s.verdicts
    probes := s.probes, curve := s.curve, staging := s.staging, arith := s.arith, sticky := s.sticky, deferred := s.deferred
    zones := s.zones, wetInputs := s.wetInputs, outputs := s.outputs, alertSet := s.alertSet, alert := s.alert
    noticePending := s.noticePending, noticeArmed := s.noticeArmed }

theorem tableSide_sendForwarded (s : State) : s.sendForwarded.tableSide = s.tableSide := by
  unfold State.sendForwarded
  split <;> rfl

theorem tableSide_releaseFieldFrame (s : State) : s.releaseFieldFrame.tableSide = s.tableSide := by
  unfold State.releaseFieldFrame
  split
  · split <;> rfl
  · rfl

theorem tableSide_pumpField (s : State) : s.pumpField.tableSide = s.tableSide := by
  unfold State.pumpField
  split
  · split
    · rfl
    · exact tableSide_releaseFieldFrame _
  · rfl

theorem tableSide_removeHead (s : State) (rest : List IntakeFrame) : (s.removeHead rest).tableSide = s.tableSide := by
  unfold State.removeHead
  split <;> rfl

theorem tableSide_dispose (s : State) (f : Frame) (a : Action) : (s.dispose f a).tableSide = s.tableSide := by
  cases a <;> rfl

/-- An arbiter with no response to send starts at most a verdict, which leaves its queue, or a forwarded frame. -/
theorem tableSide_choose_unanswered {s : State} (h : s.response = none) :
    s.choose.tableSide = s.tableSide ∨
      ∃ v rest, s.verdicts = v :: rest ∧ s.choose.tableSide = { s.tableSide with verdicts := rest } := by
  unfold State.choose
  rw [h]
  dsimp only
  split
  · exact .inl (tableSide_sendForwarded s)
  · next v rest waiting =>
    split
    · exact .inr ⟨v, rest, waiting, rfl⟩
    · exact .inl (tableSide_sendForwarded s)

theorem findProbe_of_tableSide {s t : State} (h : t.tableSide = s.tableSide) (a : Byte) : t.findProbe a = s.findProbe a := by
  have probes : t.probes = s.probes := (congrArg State.probes h :)
  simp only [State.findProbe, probes]

/-- A treatment is the treatment of the entry that the table holds for the frame's address. -/
theorem treatment_present {s : State} {f : Frame} {e : ProbeEntry}
    (h : s.treatment f = .sample e ∨ s.treatment f = .wrongLength e) : s.findProbe (frameAddress f) = some e := by
  unfold State.treatment at h
  split at h
  · split at h
    case _ x present =>
      split at h
      · obtain same | other := h
        · cases same
          exact present
        · cases other
      · obtain other | same := h
        · cases other
        · cases same
          exact present
    · simp at h
  · simp at h

/-! ## Laws of the tables -/

/-- A property of the tables that every operation on them keeps. -/
structure TableLaw (P : State → Prop) : Prop where
  tables : ∀ s : State, P s.tableSide ↔ P s
  verdictSent : ∀ {s : State} {v rest}, P s → s.verdicts = v :: rest → P { s with verdicts := rest }
  postLine : ∀ {s} (l : LineSubject), P s → P (s.postLine l)
  silence : ∀ {s a e}, P s → s.findProbe a = some e → deadlineExpired e.silence s.counter = true → P (s.silenceExpiry e)
  slot : ∀ {s z k}, P s → deadlineExpired (s.slotDeadline z k) s.counter = true → P (s.slotExpiry z k)
  trend : ∀ {s z a}, P s → (s.zone z).trendDeadline = some a → a.expired s.counter = true → P (s.trendExpiry z a)
  persistence : ∀ {s z p}, P s → (s.zone z).persistence = some p → p.arming.expired s.counter = true →
    P (s.applyDecision z ((s.zone z).persistenceExpiry p (s.surfaceMin z)))
  blind : ∀ {s z}, P s → deadlineExpired (s.zone z).blind s.counter = true → P (s.blindExpiry z)
  qualification : ∀ {s i}, P s → deadlineExpired (s.wetInput i).deadline s.counter = true → P (s.qualificationExpiry i)
  boundary : ∀ {s i a}, P s → (s.output i).boundary = some a → a.expired s.counter = true → P (s.periodBoundary i a.time)
  duty : ∀ {s i}, P s → P (s.dutyEnd i)
  effect : ∀ {s t}, P s → CommandEffect s t → P t
  damage : ∀ {s a e}, P s → s.findProbe a = some e → P (s.countDamage e)
  sample : ∀ {s a e f}, P s → s.findProbe a = some e → P (s.goodSample e f)
  wetLevel : ∀ {s i high}, P s → P (State.wetLevel i high s)
  wetPin : ∀ {s i high}, P s → P (State.wetPin i high s)

section Tables

variable {P : State → Prop} (law : TableLaw P)
include law

/-- Line traffic keeps a law of the tables. -/
theorem TableLaw.traffic {s t : State} (h : P s) (side : t.tableSide = s.tableSide) : P t :=
  (law.tables t).mp (side ▸ (law.tables s).mpr h)

theorem TableLaw.ran {u v : State} (h : P u) (ran : Ran u v) : P v := by
  obtain ⟨code, a, effect, rfl⟩ := ran
  exact law.traffic (law.effect h effect) rfl

theorem TableLaw.releaseCommand {s : State} (h : P s) : P s.releaseCommand := by
  unfold State.releaseCommand
  split
  · split
    · exact law.ran (u := s.stationDone) (law.traffic h rfl) (runCommand_ran _ _)
    · exact h
  · exact h

theorem TableLaw.arbitrate {s : State} (h : P s) : P s.arbitrate := by
  unfold State.arbitrate
  split
  · cases r : s.response with
    | none =>
      obtain same | ⟨v, rest, waiting, same⟩ := tableSide_choose_unanswered r
      · exact law.traffic h same
      · exact law.traffic (law.verdictSent h waiting) same
    | some f =>
      unfold State.choose
      rw [r]
      exact law.releaseCommand (law.traffic h rfl)
  · exact h

theorem TableLaw.pumpField {s : State} (h : P s) : P s.pumpField := law.traffic h (tableSide_pumpField s)

theorem TableLaw.damagedReport {s : State} (a : Byte) (h : P s) : P (s.damagedReport a) := by
  unfold State.damagedReport
  split
  · exact h
  case _ e present => exact law.damage h present

theorem TableLaw.fieldDiscard {s : State} (r : FrameRecord) (d : Defect) (h : P s) : P (s.fieldDiscard r d) := by
  have posted : P ((s.fieldTaken .idle).postLine d.field) := law.postLine _ (law.traffic h rfl)
  unfold State.fieldDiscard
  dsimp only
  split
  · exact law.damagedReport _ posted
  · exact posted

theorem TableLaw.fieldComplete {s : State} (r : FrameRecord) (h : P s) : P (s.fieldComplete r) := by
  unfold State.fieldComplete
  split
  · exact law.fieldDiscard r _ h
  · exact law.fieldDiscard r _ h
  · unfold State.fieldGood
    split
    · exact law.traffic h rfl
    · exact law.postLine _ (law.traffic h rfl)

theorem TableLaw.fieldArrival {s : State} (w : Symbol) (h : P s) : P (State.fieldArrival w s) := by
  have risen : P { s with fieldRx := s.fieldRx.rise } := law.traffic h rfl
  unfold State.fieldArrival
  dsimp only
  split
  · split
    · exact law.traffic risen rfl
    · exact law.postLine _ (law.traffic risen rfl)
    · exact law.arbitrate (law.fieldComplete _ risen)
  · exact risen

theorem TableLaw.dispatch {s : State} (r : FrameRecord) (h : P s) : P (s.dispatch r) := by
  have done : P s.stationDone := law.traffic h rfl
  unfold State.dispatch
  split
  · split
    · split
      · exact law.ran done (runCommand_ran _ _)
      · exact law.traffic h rfl
    · exact law.postLine _ done
  · split
    · exact law.pumpField (law.traffic h rfl)
    · exact law.traffic h rfl

theorem TableLaw.stationArrival {s : State} (w : Symbol) (h : P s) : P (State.stationArrival w s) := by
  have risen : P { s with stationRx := s.stationRx.rise } := law.traffic h rfl
  unfold State.stationArrival
  dsimp only
  split
  · split
    · exact law.traffic risen rfl
    · exact law.postLine _ (law.traffic risen rfl)
    · refine law.arbitrate ?_
      unfold State.stationComplete
      split
      · exact law.postLine _ (law.traffic risen rfl)
      · exact law.postLine _ (law.traffic risen rfl)
      · exact law.dispatch _ risen
  · exact risen

theorem TableLaw.takeHead {s : State} (h : P s) : P s.takeHead := by
  unfold State.takeHead
  split
  · exact h
  case _ f rest _ =>
    dsimp only
    split
    · refine law.traffic (s := (s.removeHead rest).treat f (s.treatment f.bytes)) ?_ (tableSide_dispose _ _ _)
      have removed : P (s.removeHead rest) := law.traffic h (tableSide_removeHead s rest)
      have found := findProbe_of_tableSide (tableSide_removeHead s rest)
      cases kind : s.treatment f.bytes with
      | sample e => exact law.sample removed ((found _).trans (treatment_present (.inl kind)))
      | wrongLength e => exact law.damage removed ((found _).trans (treatment_present (.inr kind)))
      | plain => exact removed
    · exact h

/-- A law of the tables is kept by every event. -/
theorem TableLaw.eventLaw : EventLaw P where
  silence {s a} h expired := by
    unfold State.takeSilence
    unfold State.silenceDeadline at expired
    split
    · exact h
    case _ e present =>
      rw [present] at expired
      exact law.arbitrate (law.silence h present expired)
  slot h expired := law.arbitrate (law.slot h expired)
  persistence {s z} h expired := by
    refine law.arbitrate ?_
    unfold State.persistenceExpiry
    split
    · exact h
    case _ p armed =>
      rw [State.persistenceDeadline, armed] at expired
      exact law.persistence h armed expired
  blind h expired := law.arbitrate (law.blind h expired)
  qualification h expired := law.arbitrate (law.qualification h expired)
  trend {s z} h expired := by
    unfold State.takeTrend
    split
    · exact h
    case _ a armed => exact law.arbitrate (law.trend h armed (by rwa [armed] at expired))
  boundary {s i} h expired := by
    unfold State.takeBoundary
    split
    · exact h
    case _ a armed => exact law.boundary h armed (by rwa [armed] at expired)
  duty h := law.duty h
  command {s payload run} h runs := by
    unfold State.takeCommand
    split
    · exact h
    · split
      · exact law.traffic h rfl
      · exact law.arbitrate (law.ran (u := { s with stationAsm := .idle }) (law.traffic h rfl) (runs _))
  classify h := law.arbitrate (law.takeHead h)
  wetLevel h := law.wetLevel h
  fieldArrival h := law.fieldArrival _ h
  fieldStrobeFall h := law.traffic h rfl
  fieldTimeout h := by
    unfold State.fieldTimeout
    split
    · exact law.postLine _ (law.traffic h rfl)
    · exact h
  fieldAckRise h := law.pumpField (law.traffic h rfl)
  fieldAckFall h := law.traffic h rfl
  fieldAllowance h := by
    unfold State.fieldAllowance
    split
    · exact law.pumpField (law.postLine _ (law.traffic h rfl))
    · exact h
  stationArrival h := law.stationArrival _ h
  stationStrobeFall h := law.traffic h rfl
  stationTimeout h := by
    unfold State.stationTimeout
    split
    · exact law.postLine _ (law.traffic h rfl)
    · exact h
  stationAckRise h := law.arbitrate (law.traffic h rfl)
  stationAckFall h := law.traffic h rfl
  stationAllowance h := by
    unfold State.stationAllowance
    split
    · exact law.arbitrate (law.postLine _ (law.traffic h rfl))
    · exact h
  heldFieldRise _ h := law.traffic h rfl
  heldStationRise _ h := law.traffic h rfl
  heldFieldAck _ h := law.traffic h rfl
  heldStationAck _ h := law.traffic h rfl
  heldWetPin _ h := law.wetPin h

end Tables

end Sys2Proof.Machine

/-! SUPPORT. What the Zone Evaluator can touch: zone records, the verdict queue, the ALERT line and the three notices of zones.
Everything else stands beside it, and an operation that only evaluates zones leaves that alone. -/

namespace Sys2Proof.Machine

open Sys2Proof

/-! ## The side that evaluations leave alone -/

/-- The part with everything that evaluating zones can move blanked. -/
def State.besideZones (s : State) : State :=
  { s with
    zones := State.reset.zones, verdicts := [], alert := false
    noticePending := { s.noticePending with condensing := 0, risk := 0, blind := 0 } }

theorem besideZones_applyDecision (s : State) (z : Fin 24) (d : Decision) :
    (s.applyDecision z d).besideZones = s.besideZones := by
  simp only [State.besideZones, State.applyDecision, foldl_postEntered]

theorem besideZones_evaluate (s : State) (z : Fin 24) : (s.evaluate z).besideZones = s.besideZones :=
  besideZones_applyDecision s z _

/-- A fold of operations that leave the side alone leaves it alone. -/
theorem besideZones_foldl {α : Type} {f : State → α → State} (keep : ∀ s a, (f s a).besideZones = s.besideZones)
    (l : List α) (s : State) : (l.foldl f s).besideZones = s.besideZones :=
  foldl_keeps (fun t => t.besideZones = s.besideZones) (fun t a h => (keep t a).trans h) l s rfl

theorem besideZones_writeWetFlag (s : State) (z : Fin 24) : (s.writeWetFlag z).besideZones = s.besideZones := rfl

theorem besideZones_recomputeFlags (s : State) (zs : List (Fin 24)) :
    (s.recomputeFlags zs).besideZones = s.besideZones :=
  (besideZones_foldl besideZones_evaluate _ _).trans (besideZones_foldl besideZones_writeWetFlag _ _)

theorem besideZones_push (s : State) (z : Fin 24) (stamp : Stamp) (result : Option Int) :
    (s.push z stamp result).besideZones = s.besideZones := by
  unfold State.push
  split
  · exact besideZones_evaluate _ z
  · rfl

theorem besideZones_slotExpiry (s : State) (z : Fin 24) (k : Fin 8) : (s.slotExpiry z k).besideZones = s.besideZones :=
  besideZones_evaluate _ z

theorem besideZones_trendExpiry (s : State) (z : Fin 24) (a : Arming) : (s.trendExpiry z a).besideZones = s.besideZones :=
  besideZones_evaluate _ z

theorem besideZones_blindExpiry (s : State) (z : Fin 24) : (s.blindExpiry z).besideZones = s.besideZones :=
  besideZones_applyDecision s z _

theorem besideZones_restartZone (s : State) (z : Fin 24) : (s.restartZone z).besideZones = s.besideZones := by
  unfold State.restartZone
  split
  · exact besideZones_applyDecision s z _
  · rfl

/-- A new runtime part moves the table, and beside the zones nothing else. -/
theorem besideZones_updateProbe (s : State) (e f : ProbeEntry) :
    (s.updateProbe e f).besideZones = (s.setProbes (replaceProbe f s.probes)).besideZones := by
  obtain ⟨_, same⟩ | ⟨_, evaluated⟩ := s.updateProbe_cases e f
  · rw [same]
  · rw [evaluated, besideZones_evaluate]

/-- A posting beside the zones depends on what stands beside them alone. -/
theorem besideZones_post {s t : State} (h : t.besideZones = s.besideZones) (p : Posting) :
    (t.post p).besideZones = (s.post p).besideZones := by
  have split (u : State) : (u.post p).besideZones = (u.besideZones.post p).besideZones := by cases p <;> rfl
  rw [split t, split s, h]

/-- A silence expiry writes the entry STALE and posts its address (R41). -/
theorem besideZones_silenceExpiry (s : State) (e : ProbeEntry) :
    (s.silenceExpiry e).besideZones =
      ((s.setProbes (replaceProbe { e with state := .stale, silence := none } s.probes)).post
        (.probeLost e.load.address)).besideZones :=
  besideZones_post (besideZones_updateProbe s e _) _

/-- One damaged frame counted: a FAULTY entry stays, a count below 2 goes up, the third makes it FAULTY (R42). -/
theorem besideZones_countDamage (s : State) (e : ProbeEntry) :
    (e.state = .faulty ∧ (s.countDamage e).besideZones = s.besideZones) ∨
    (e.state ≠ .faulty ∧ e.damaged < 2 ∧
      (s.countDamage e).besideZones =
        (s.setProbes (replaceProbe { e with damaged := e.damaged + 1 } s.probes)).besideZones) ∨
    (e.state ≠ .faulty ∧ 2 ≤ e.damaged ∧
      (s.countDamage e).besideZones =
        ((s.setProbes (replaceProbe { e with damaged := 3, state := .faulty, silence := none } s.probes)).post
          (.probeLost e.load.address)).besideZones) := by
  unfold State.countDamage
  split
  case isTrue faulty => exact .inl ⟨faulty, rfl⟩
  case isFalse working =>
    split
    case isTrue few => exact .inr (.inl ⟨working, Nat.lt_of_succ_lt_succ few, besideZones_updateProbe s e _⟩)
    case isFalse many =>
      refine .inr (.inr ⟨working, ?_, besideZones_post (besideZones_updateProbe s e _) _⟩)
      simpa [Config.faultyCount] using many

/-- A good SAMPLE writes the entry LIVE; an AIR entry keeps its last value and, for a zero status, leaves what the conversion
leaves (R40, R49, R50). -/
theorem besideZones_goodSample (s : State) (e : ProbeEntry) (f : IntakeFrame) :
    (e.load.kind = .air ∧
      ((s.goodSample e f).besideZones =
          (s.setProbes (replaceProbe (e.heard s.counter f.stamp) s.probes)).besideZones ∨
        ∃ a b,
          (s.goodSample e f).besideZones =
            ((s.setProbes (replaceProbe (e.heard s.counter f.stamp) s.probes)).afterConversion
              (convertAir s.arith s.curve s.sticky s.deferred e.load a b)).besideZones)) ∨
    (e.load.kind ≠ .air ∧ ∃ value,
      (s.goodSample e f).besideZones =
        (s.setProbes
          (replaceProbe { e.heard s.counter f.stamp with lastValue := value } s.probes)).besideZones) := by
  unfold State.goodSample
  split
  case _ air =>
    refine .inl ⟨air, ?_⟩
    unfold State.airSample
    dsimp only
    split
    · exact .inl (besideZones_push _ _ _ _)
    · refine .inr ⟨sampleCodeA f.bytes, sampleCodeB f.bytes, ?_⟩
      split
      · exact besideZones_push _ _ _ _
      · rfl
  case _ notAir => exact .inr ⟨notAir, _, besideZones_updateProbe s e _⟩

/-- A qualification expiry takes the change, and may post WET (R136). -/
theorem besideZones_qualificationExpiry (s : State) (i : Fin 4) :
    let r := s.wetInput i
    let taken := s.setWetInput i
      { r with state := if r.state == .toWet then .wet else .dry, deadline := none, capture := s.counter }
    (s.qualificationExpiry i).besideZones = taken.besideZones ∨
      (s.qualificationExpiry i).besideZones = (taken.post (.wet i)).besideZones := by
  intro r taken
  have flagged : (taken.recomputeFlags r.zone.toList).besideZones = taken.besideZones := besideZones_recomputeFlags _ _
  unfold State.qualificationExpiry
  dsimp only
  split
  · exact .inr (besideZones_post flagged _)
  · exact .inl flagged

/-! ## The restarts -/

/-- RESTART EVALUATION before its output step: reports gone, probes fresh, and the zones restarted. -/
@[irreducible] def State.zonesRestarted (s : State) : State :=
  (allZones.foldl State.restartZone s.forgetReports.freshProbes).refreshAlert

theorem restartEvaluation_eq (s : State) : s.restartEvaluation = allUnits.foldl State.restartOutput s.zonesRestarted := by
  unfold State.zonesRestarted
  rfl

theorem besideZones_refreshAlert (s : State) : s.refreshAlert.besideZones = s.besideZones := rfl

theorem besideZones_zonesRestarted (s : State) :
    s.zonesRestarted.besideZones = s.forgetReports.freshProbes.besideZones := by
  unfold State.zonesRestarted
  exact (besideZones_refreshAlert _).trans (besideZones_foldl besideZones_restartZone allZones _)

/-- The output step moves output records only. -/
theorem restartOutput_setOutput (s : State) (i : Fin 4) : ∃ r, s.restartOutput i = s.setOutput i r := by
  unfold State.restartOutput
  split
  · exact ⟨_, rfl⟩
  · exact ⟨s.output i, by simp [State.setOutput, State.output]⟩

theorem foldl_restartOutput (l : List (Fin 4)) (s : State) : ∃ o, l.foldl State.restartOutput s = { s with outputs := o } := by
  refine foldl_keeps (fun t => ∃ o, t = { s with outputs := o }) ?_ l s ⟨_, rfl⟩
  rintro _ i ⟨o, rfl⟩
  obtain ⟨r, e⟩ := restartOutput_setOutput { s with outputs := o } i
  exact ⟨_, e⟩

theorem restartEvaluation_outputs (s : State) : ∃ o, s.restartEvaluation = { s.zonesRestarted with outputs := o } := by
  rw [restartEvaluation_eq]
  exact foldl_restartOutput allUnits s.zonesRestarted

/-- SET OUTPUT writes one output record. -/
theorem applyOutput_setOutput (s : State) (i : Fin 4) (new : Output) : ∃ r, s.applyOutput i new = s.setOutput i r := by
  unfold State.applyOutput
  split
  · exact ⟨_, by simp [State.periodBoundary, State.setOutput]; rfl⟩
  · exact ⟨_, rfl⟩
  · exact ⟨_, rfl⟩

end Sys2Proof.Machine

/-! SUPPORT. Laws of the tables, settled: the registers that every row but a tick and a reset leaves alone. -/

namespace Sys2Proof.Machine

open Sys2Proof

/-! ## The counter, the own address, RESETN and the waiting commands -/

/-- What only ticks and resets move, with the queue of waiting commands, which no row moves. -/
def State.registers (s : State) : List Instr × Stamp × Byte × Bool := (s.pending, s.counter, s.ownAddress, s.resetLow)

theorem registers_of_besideZones {s t : State} (h : t.besideZones = s.besideZones) : t.registers = s.registers :=
  (congrArg State.registers h :)

theorem registers_restartEvaluation (s : State) : s.restartEvaluation.registers = s.registers := by
  obtain ⟨o, e⟩ := restartEvaluation_outputs s
  have same : s.zonesRestarted.registers = s.registers := (registers_of_besideZones (besideZones_zonesRestarted s)).trans rfl
  exact (congrArg State.registers e).trans same

theorem CommandEffect.registers {s t : State} (h : CommandEffect s t) : t.registers = s.registers := by
  cases h with
  | restartEvaluation => exact registers_restartEvaluation s
  | setOutput i enabled zones band period fallback polarity =>
    obtain ⟨r, e⟩ := applyOutput_setOutput s i
      { s.output i with
        enabled := enabled, zones := zones, band := band, period := period, fallback := fallback, polarity := polarity }
    rw [e]
    rfl
  | setWetInput => exact (registers_of_besideZones (besideZones_recomputeFlags _ _)).trans rfl
  | _ => rfl

theorem registers_countDamage (s : State) (e : ProbeEntry) : (s.countDamage e).registers = s.registers := by
  obtain ⟨_, same⟩ | ⟨_, _, same⟩ | ⟨_, _, same⟩ := besideZones_countDamage s e <;>
    exact (registers_of_besideZones same).trans rfl

theorem registers_goodSample (s : State) (e : ProbeEntry) (f : IntakeFrame) :
    (s.goodSample e f).registers = s.registers := by
  obtain ⟨_, same | ⟨_, _, same⟩⟩ | ⟨_, _, same⟩ := besideZones_goodSample s e f <;>
    exact (registers_of_besideZones same).trans rfl

theorem registers_qualificationExpiry (s : State) (i : Fin 4) : (s.qualificationExpiry i).registers = s.registers := by
  obtain same | same := besideZones_qualificationExpiry s i <;>
    exact (registers_of_besideZones same).trans rfl

/-- No operation on the tables moves the registers. -/
theorem registers_tableLaw (r : List Instr × Stamp × Byte × Bool) : TableLaw fun t => t.registers = r where
  tables _ := Iff.rfl
  verdictSent h _ := h
  postLine _ h := h
  silence {s _ e} h _ _ := (registers_of_besideZones (besideZones_silenceExpiry s e)).trans h
  slot h _ := h
  trend h _ _ := h
  persistence h _ _ := h
  blind h _ := h
  qualification {s i} h _ := (registers_qualificationExpiry s i).trans h
  boundary h _ _ := h
  duty h := h
  effect h effect := effect.registers.trans h
  damage {s _ e} h _ := (registers_countDamage s e).trans h
  sample {s _ e f} h _ := (registers_goodSample s e f).trans h
  wetLevel {s i high} h := by
    unfold State.wetLevel
    split <;> exact h
  wetPin h := h

theorem registers_exec {c : Instr} {s : State} (tick : c ≠ .tick) (running : resetRow c = false) :
    ∃ t, exec c s = .next t ∧ t.registers = s.registers :=
  (registers_tableLaw s.registers).eventLaw.exec rfl c (fun h => absurd h tick) fun h => by simp [running] at h

theorem pending_finishCount (s : State) : s.finishCount.pending = s.pending :=
  congrArg Prod.fst ((registers_tableLaw s.registers).eventLaw.toCountLaw.finishCount s rfl)

theorem registers_settle (s : State) : s.settle.registers = s.registers :=
  (registers_tableLaw s.registers).eventLaw.toSettleLaw.settle s rfl

theorem settle_pending (s : State) : s.settle.pending = s.pending := congrArg Prod.fst (registers_settle s)

theorem settle_resetLow (s : State) : s.settle.resetLow = s.resetLow := congrArg (·.2.2.2) (registers_settle s)

/-- A TICK and the resets answer a next state too, and keep the waiting commands. -/
theorem exec_keeps_pending (c : Instr) (s : State) : ∃ t, exec c s = .next t ∧ t.pending = s.pending := by
  by_cases running : resetRow c = false
  · by_cases tick : c = .tick
    · rw [tick]
      refine ⟨_, event_next s _, ?_⟩
      split
      · rfl
      · exact (pending_finishCount _).trans (settle_pending s)
    · obtain ⟨t, e, same⟩ := registers_exec (s := s) tick running
      exact ⟨t, e, congrArg Prod.fst same⟩
  · cases c with
    | powerOn a => exact ⟨_, rfl, rfl⟩
    | pinReset =>
      refine ⟨_, rfl, ?_⟩
      split <;> rfl
    | pinResetRelease a =>
      refine ⟨_, rfl, ?_⟩
      split <;> rfl
    | _ => exact absurd rfl running

/-- Settles O2: no row but a tick and the resets moves a register. -/
theorem everyCommandAnswers : Obligations.EveryCommandAnswers := by
  unfold Obligations.EveryCommandAnswers
  intro c s
  obtain ⟨t, e, queue⟩ := exec_keeps_pending c s
  refine ⟨t, e, queue, fun tick reset power release => ?_⟩
  have running : resetRow c = false := by
    cases c with
    | powerOn a => exact absurd rfl (power a)
    | pinReset => exact absurd rfl reset
    | pinResetRelease a => exact absurd rfl (release a)
    | _ => rfl
  obtain ⟨t', e', same⟩ := registers_exec (s := s) tick running
  cases e.symm.trans e'
  simp only [State.registers, Prod.mk.injEq] at same
  exact same.2

end Sys2Proof.Machine

/-! SUPPORT. The curve, the staging buffer and the deferred marks are lawful after every step (R53, R55, R64). -/

namespace Sys2Proof.Machine

open Sys2Proof

/-! ## Lawful curves -/

theorem builtIn_lawful : Curve.builtIn.Lawful := by
  refine ⟨?_, by decide, by decide⟩
  unfold spanLawful
  decide

theorem spanLawful_of_curveInRange {base : Int} {step n : Nat} (h : curveInRange base step n = true) :
    spanLawful base step n := by
  simp only [curveInRange, Bool.and_eq_true, decide_eq_true_eq] at h
  obtain ⟨⟨⟨⟨low, _⟩, steps⟩, count⟩, top⟩ := h
  exact ⟨low, steps.1, steps.2, count.1, count.2, top⟩

/-- Values with none out of order rise throughout (R58). -/
theorem pairwise_of_firstUnordered {vs : List Nat} (h : firstUnordered vs = none) : vs.Pairwise (· < ·) := by
  rw [firstUnordered, List.find?_range_eq_none] at h
  refine (List.isChain_iff_getElem.mpr fun i lt => ?_).pairwise
  have here := h (i + 1) lt
  have lower : i < vs.length := Nat.lt_of_succ_lt lt
  simpa [lt, lower] using here

theorem stage_lawful {base : Int} {step n : Nat} {vs : List Nat} (span : spanLawful base step n) (fit : vs.length ≤ n)
    (values : ∀ v ∈ vs, 1 ≤ v ∧ v ≤ 65535) : (stage base step n vs).Lawful := by
  by_cases whole : vs.length = n
  · rw [stage_full whole]
    exact ⟨span, whole, values⟩
  · rw [stage_filling whole]
    exact ⟨span, by omega, values⟩

/-- SET ARITHMETIC leaves a mark only on an unmasked condition whose sticky flag is set (R64). -/
theorem deferredAfter_marks {before after sticky deferred : Conditions} (h : deferred &&& ~~~(sticky &&& ~~~before) = 0) :
    deferredAfter before after sticky deferred &&& ~~~(sticky &&& ~~~after) = 0 := by
  have bitwise : ∀ d y b a : Bool, (d && !(y && !b)) = false → (((d || b && y) && !a) && !(y && !a)) = false := by decide
  refine BitVec.eq_of_getLsbD_eq fun k small => ?_
  have bit : (deferred &&& ~~~(sticky &&& ~~~before)).getLsbD k = false := by rw [h]; exact BitVec.getLsbD_zero
  refine Eq.trans ?_ (BitVec.getLsbD_zero (w := 4) (i := k)).symm
  simp only [deferredAfter, BitVec.getLsbD_and, BitVec.getLsbD_or, BitVec.getLsbD_not, small, decide_true,
    Bool.true_and] at bit ⊢
  exact bitwise _ _ _ _ bit

/-! ## The law -/

theorem arithmetic_of_besideZones {s t : State} (h : t.besideZones = s.besideZones) (law : s.ArithmeticLawful) :
    t.ArithmeticLawful := by
  have same : t.besideZones.ArithmeticLawful := h ▸ law
  exact same

/-- With no mark set the third part of the law holds of itself. -/
theorem arithmetic_unmarked {s : State} (curve : s.curve.Lawful) (staging : s.staging.Lawful) (clear : s.deferred = 0) :
    s.ArithmeticLawful := ⟨curve, staging, by rw [clear]; exact BitVec.zero_and⟩

theorem CommandEffect.arithmetic {s t : State} (law : s.ArithmeticLawful) (h : CommandEffect s t) : t.ArithmeticLawful := by
  obtain ⟨curve, staging, marks⟩ := law
  have law : s.ArithmeticLawful := ⟨curve, staging, marks⟩
  cases h with
  | restartEvaluation =>
    obtain ⟨o, e⟩ := restartEvaluation_outputs s
    have law : s.zonesRestarted.ArithmeticLawful :=
      arithmetic_of_besideZones (besideZones_zonesRestarted s)
        (arithmetic_unmarked (s := s.forgetReports.freshProbes) curve staging rfl)
    rw [e]
    exact law
  | restartFull => exact arithmetic_unmarked builtIn_lawful trivial rfl
  | curveBegin base step n range =>
    have span := spanLawful_of_curveInRange range
    have two : 2 ≤ n := span.2.2.2.1
    exact ⟨curve, ⟨span, by simp; omega, by simp⟩, marks⟩
  | curvePoints base step n old new filling fit values =>
    rw [filling] at staging
    obtain ⟨span, _, before⟩ := staging
    refine ⟨curve, stage_lawful span (by simpa using fit) fun v member => ?_, marks⟩
    obtain member | member := List.mem_append.mp member
    · exact before v member
    · exact values v member
  | curveCommit base step n vs full order =>
    rw [full] at staging
    obtain ⟨span, count, values⟩ := staging
    exact ⟨⟨by rw [Curve.n]; exact count ▸ span, values, pairwise_of_firstUnordered order⟩, trivial, marks⟩
  | restoreCurve => exact ⟨builtIn_lawful, staging, marks⟩
  | setArithmetic mode masked => exact ⟨curve, staging, deferredAfter_marks marks⟩
  | clearSticky => exact arithmetic_unmarked curve staging rfl
  | setOutput i enabled zones band period fallback polarity =>
    obtain ⟨r, e⟩ := applyOutput_setOutput s i
      { s.output i with
        enabled := enabled, zones := zones, band := band, period := period, fallback := fallback, polarity := polarity }
    rw [e]
    exact law
  | setWetInput i => exact arithmetic_of_besideZones (besideZones_recomputeFlags _ _) (s := s.setWetInput i _) law
  | _ => exact law

theorem arithmetic_countDamage {s : State} (law : s.ArithmeticLawful) (e : ProbeEntry) :
    (s.countDamage e).ArithmeticLawful := by
  obtain ⟨_, same⟩ | ⟨_, _, same⟩ | ⟨_, _, same⟩ := besideZones_countDamage s e
  · exact arithmetic_of_besideZones same law
  · exact arithmetic_of_besideZones same (s := s.setProbes _) law
  · exact arithmetic_of_besideZones same (s := (s.setProbes _).post _) law

/-- A conversion clears the marks whatever it raises (R67). -/
theorem arithmetic_goodSample {s : State} (law : s.ArithmeticLawful) (e : ProbeEntry) (f : IntakeFrame) :
    (s.goodSample e f).ArithmeticLawful := by
  obtain ⟨_, same | ⟨_, _, same⟩⟩ | ⟨_, _, same⟩ := besideZones_goodSample s e f
  · exact arithmetic_of_besideZones same (s := s.setProbes _) law
  · exact arithmetic_of_besideZones same (arithmetic_unmarked (s := (s.setProbes _).afterConversion _) law.1 law.2.1 rfl)
  · exact arithmetic_of_besideZones same (s := s.setProbes _) law

theorem arithmetic_tableLaw : TableLaw State.ArithmeticLawful where
  tables _ := Iff.rfl
  verdictSent h _ := h
  postLine _ h := h
  silence {s _ e} h _ _ := arithmetic_of_besideZones (besideZones_silenceExpiry s e) (s := (s.setProbes _).post _) h
  slot h _ := h
  trend h _ _ := h
  persistence h _ _ := h
  blind h _ := h
  qualification {s i} h _ := by
    obtain same | same := besideZones_qualificationExpiry s i
    · exact arithmetic_of_besideZones same (s := s.setWetInput i _) h
    · exact arithmetic_of_besideZones same (s := (s.setWetInput i _).post _) h
  boundary h _ _ := h
  duty h := h
  effect h effect := effect.arithmetic h
  damage h _ := arithmetic_countDamage h _
  sample h _ := arithmetic_goodSample h _ _
  wetLevel {s i high} h := by
    unfold State.wetLevel
    split <;> exact h
  wetPin h := h

/-- Settles O54: every operation on the tables keeps the law, and so does every row. -/
theorem arithmeticStaysLawful : Obligations.ArithmeticStaysLawful := by
  unfold Obligations.ArithmeticStaysLawful
  intro s t h e
  have law := arithmetic_tableLaw.eventLaw
  exact law.step (fun _ _ h => h) (law.tick fun _ h => h) (fun _ _ _ _ => arithmetic_unmarked builtIn_lawful trivial rfl) h e

end Sys2Proof.Machine

/-! SUPPORT. The Probe Table as a list in ascending address, and its laws after every step (R32 to R34, R42, R179). -/

namespace Sys2Proof.Machine

open Sys2Proof

/-! ## A table in ascending address -/

/-- Strictly ascending addresses (R33). -/
def Ascending (t : List ProbeEntry) : Prop := t.Pairwise fun x y => x.load.address.toNat < y.load.address.toNat

/-- The addresses of a table. -/
def addresses (t : List ProbeEntry) : List Byte := t.map fun e => e.load.address

theorem ascending_iff (t : List ProbeEntry) : (t.map fun e => e.load.address.toNat).Pairwise (· < ·) ↔ Ascending t :=
  List.pairwise_map

theorem findProbe_isSome_iff (s : State) (a : Byte) : (s.findProbe a).isSome = true ↔ a ∈ addresses s.probes := by
  simp [State.findProbe, addresses]

theorem findProbe_eq_none_iff (s : State) (a : Byte) : s.findProbe a = none ↔ a ∉ addresses s.probes := by
  rw [← findProbe_isSome_iff, Option.not_isSome_iff_eq_none]

theorem mem_addresses {t : List ProbeEntry} {e : ProbeEntry} (h : e ∈ t) : e.load.address ∈ addresses t :=
  List.mem_map_of_mem h

@[simp] theorem addresses_replaceProbe (e : ProbeEntry) (t : List ProbeEntry) : addresses (replaceProbe e t) = addresses t := by
  rw [addresses, replaceProbe, List.map_map, addresses]
  refine List.map_congr_left fun x _ => ?_
  by_cases h : x.load.address = e.load.address <;> simp [h]

@[simp] theorem length_replaceProbe (e : ProbeEntry) (t : List ProbeEntry) : (replaceProbe e t).length = t.length :=
  List.length_map _

theorem mem_replaceProbe {e x : ProbeEntry} {t : List ProbeEntry} (h : x ∈ replaceProbe e t) : x = e ∨ x ∈ t := by
  obtain ⟨y, member, rfl⟩ := List.mem_map.mp h
  by_cases same : y.load.address = e.load.address
  · exact .inl (if_pos same)
  · rw [if_neg same]
    exact .inr member

theorem ascending_of_addresses {t u : List ProbeEntry} (same : addresses t = addresses u) (h : Ascending u) : Ascending t := by
  have keyed (v : List ProbeEntry) : Ascending v ↔ (addresses v).Pairwise fun a b => a.toNat < b.toNat := by
    rw [addresses, List.pairwise_map]
    rfl
  rw [keyed] at h ⊢
  rwa [same]

/-- In an ascending table an address has one entry. -/
theorem Ascending.entry_unique {t : List ProbeEntry} (h : Ascending t) {x y : ProbeEntry} (hx : x ∈ t) (hy : y ∈ t)
    (same : x.load.address = y.load.address) : x = y := by
  induction t with
  | nil => cases hx
  | cons e t ih =>
    obtain ⟨below, rest⟩ := List.pairwise_cons.mp h
    rw [List.mem_cons] at hx hy
    obtain rfl | inside := hx
    · obtain rfl | inside' := hy
      · rfl
      · exact absurd (below y inside') (by rw [same]; exact lt_irrefl _)
    · obtain rfl | inside' := hy
      · exact absurd (below x inside) (by rw [same]; exact lt_irrefl _)
      · exact ih rest inside inside'

/-- An address above all of a table's is not in it. -/
theorem replaceProbe_absent {e : ProbeEntry} {t : List ProbeEntry} (h : e.load.address ∉ addresses t) :
    replaceProbe e t = t := by
  refine (List.map_congr_left fun x member => ?_).trans (List.map_id t)
  have other : x.load.address ≠ e.load.address := fun same => h (same ▸ mem_addresses member)
  simp [other]

/-- An entry of an address in the table takes its place. -/
theorem insertProbe_present {e : ProbeEntry} {t : List ProbeEntry} (order : Ascending t) (h : e.load.address ∈ addresses t) :
    insertProbe e t = replaceProbe e t := by
  induction t with
  | nil => cases h
  | cons x t ih =>
    obtain ⟨below, rest⟩ := List.pairwise_cons.mp order
    have cons : replaceProbe e (x :: t) = (if x.load.address = e.load.address then e else x) :: replaceProbe e t := rfl
    unfold insertProbe
    by_cases same : x.load.address = e.load.address
    · have gone : e.load.address ∉ addresses t := fun member => by
        obtain ⟨y, hy, key⟩ := List.mem_map.mp member
        have := below y hy
        rw [key, same] at this
        exact lt_irrefl _ this
      rw [cons, if_pos same, if_pos same, replaceProbe_absent gone]
    · have member : e.load.address ∈ addresses t := (List.mem_cons.mp h).resolve_left (Ne.symm same)
      obtain ⟨y, hy, key⟩ := List.mem_map.mp member
      have above := below y hy
      rw [key] at above
      rw [cons, if_neg same, if_neg same, if_neg above.not_gt, ih rest member]

/-- An entry of a new address goes between the lower addresses and the higher ones. -/
theorem insertProbe_absent {e : ProbeEntry} {t : List ProbeEntry} (order : Ascending t) (h : e.load.address ∉ addresses t) :
    insertProbe e t =
      (t.filter fun x => decide (x.load.address.toNat < e.load.address.toNat)) ++ [e]
        ++ t.filter fun x => decide (e.load.address.toNat < x.load.address.toNat) := by
  induction t with
  | nil => rfl
  | cons x t ih =>
    obtain ⟨below, rest⟩ := List.pairwise_cons.mp order
    have other : x.load.address ≠ e.load.address := fun same => h (same ▸ List.mem_cons_self)
    have apart : x.load.address.toNat ≠ e.load.address.toNat := fun same => other (BitVec.eq_of_toNat_eq same)
    unfold insertProbe
    rw [if_neg other]
    by_cases first : e.load.address.toNat < x.load.address.toNat
    · have low : ∀ y ∈ t, e.load.address.toNat < y.load.address.toNat := fun y hy => first.trans (below y hy)
      have none_lower : (t.filter fun y => decide (y.load.address.toNat < e.load.address.toNat)) = [] :=
        List.filter_eq_nil_iff.mpr fun y hy => by simpa using (low y hy).le
      have all_higher : (t.filter fun y => decide (e.load.address.toNat < y.load.address.toNat)) = t :=
        List.filter_eq_self.mpr fun y hy => by simpa using low y hy
      simp [first, first.le, none_lower, all_higher]
    · have lower : x.load.address.toNat < e.load.address.toNat := by omega
      rw [if_neg first, ih rest fun member => h (List.mem_cons_of_mem _ member)]
      simp [lower, lower.le]

/-! ## Lawful entries (R32, R34, R42) -/

/-- With its deadline armed an entry is UNSEEN or LIVE, and so not FAULTY. -/
theorem ProbeEntry.Lawful.stale {e : ProbeEntry} (law : e.Lawful) (armed : e.silence.isSome = true) :
    ({ e with state := .stale, silence := none } : ProbeEntry).Lawful := by
  obtain ⟨range, silence, air, count, faulty⟩ := law
  have working : e.state ≠ .faulty := by
    obtain unseen | live := silence.mp armed
    · simp [unseen]
    · simp [live]
  exact ⟨range, by simp, air, count, by simpa using mt faulty.mpr working⟩

theorem ProbeEntry.Lawful.counted {e : ProbeEntry} (law : e.Lawful) (working : e.state ≠ .faulty) (few : e.damaged < 2) :
    ({ e with damaged := e.damaged + 1 } : ProbeEntry).Lawful := by
  obtain ⟨range, silence, air, _, _⟩ := law
  exact ⟨range, silence, air, by simp; omega, ⟨fun faulty => absurd faulty working, fun three => by simp at three; omega⟩⟩

theorem ProbeEntry.Lawful.failed {e : ProbeEntry} (law : e.Lawful) :
    ({ e with damaged := 3, state := .faulty, silence := none } : ProbeEntry).Lawful := by
  obtain ⟨range, _, air, _, _⟩ := law
  exact ⟨range, by simp, air, le_rfl, by simp⟩

theorem ProbeEntry.Lawful.heard {e : ProbeEntry} (law : e.Lawful) (now stamp : Stamp) : (e.heard now stamp).Lawful := by
  obtain ⟨range, _, air, _, _⟩ := law
  exact ⟨range, by simp [ProbeEntry.heard], air, by simp [ProbeEntry.heard], by simp [ProbeEntry.heard]⟩

theorem ProbeEntry.Lawful.valued {e : ProbeEntry} (law : e.Lawful) (notAir : e.load.kind ≠ .air) (v : LastValue) :
    ({ e with lastValue := v } : ProbeEntry).Lawful := by
  obtain ⟨range, silence, _, count, faulty⟩ := law
  exact ⟨range, silence, fun air => absurd air notAir, count, faulty⟩

theorem ProbeLoad.fresh_lawful {p : ProbeLoad} (range : p.inRange = true) (now : Stamp) : (p.fresh now).Lawful :=
  ⟨range, by simp [ProbeLoad.fresh], fun _ => rfl, by simp [ProbeLoad.fresh], by simp [ProbeLoad.fresh]⟩

/-! ## Lawful tables -/

/-- The laws of a table with the PROBE_LOST set that belongs to it (R33, R179). -/
def TableLawful (t : List ProbeEntry) (lost : BitVec 128) : Prop :=
  t.length ≤ 96 ∧ Ascending t ∧ (∀ e ∈ t, e.Lawful) ∧ ∀ a : Byte, lost.getLsbD a.toNat = true → a ∈ addresses t

theorem probeTableLawful_iff (s : State) : s.ProbeTableLawful ↔ TableLawful s.probes s.noticePending.probeLost := by
  simp only [State.ProbeTableLawful, TableLawful, ascending_iff, findProbe_isSome_iff]

section TableLawful

variable {t : List ProbeEntry} {lost : BitVec 128} (law : TableLawful t lost)
include law

theorem TableLawful.replace {e : ProbeEntry} (entry : e.Lawful) : TableLawful (replaceProbe e t) lost := by
  obtain ⟨room, order, entries, named⟩ := law
  refine ⟨by rwa [length_replaceProbe], ascending_of_addresses (addresses_replaceProbe e t) order, fun x hx => ?_,
    by rwa [addresses_replaceProbe]⟩
  obtain rfl | hx := mem_replaceProbe hx
  · exact entry
  · exact entries x hx

/-- Posting PROBE_LOST for an address of the table keeps the law. -/
theorem TableLawful.post {a : Byte} (h : a ∈ addresses t) : TableLawful t (lost ||| BitVec.twoPow 128 a.toNat) := by
  obtain ⟨room, order, entries, named⟩ := law
  refine ⟨room, order, entries, fun b bit => ?_⟩
  rw [BitVec.getLsbD_or, Bool.or_eq_true, BitVec.getLsbD_twoPow, Bool.and_eq_true, decide_eq_true_eq,
    decide_eq_true_eq] at bit
  obtain old | ⟨_, same⟩ := bit
  · exact named b old
  · rwa [← BitVec.eq_of_toNat_eq same]

/-- A new entry where there is room for one. -/
theorem TableLawful.insertNew {e : ProbeEntry} (entry : e.Lawful) (absent : e.load.address ∉ addresses t)
    (room : t.length < 96) : TableLawful (insertProbe e t) lost := by
  obtain ⟨_, order, entries, named⟩ := law
  have apart : ∀ x ∈ t, x.load.address.toNat ≠ e.load.address.toNat := fun x hx same =>
    absent (BitVec.eq_of_toNat_eq same ▸ mem_addresses hx)
  have members : ∀ x, x ∈ insertProbe e t ↔ x = e ∨ x ∈ t := fun x => by
    rw [insertProbe_absent order absent]
    simp only [List.mem_append, List.mem_filter, decide_eq_true_eq, List.mem_singleton]
    constructor
    · rintro ((⟨hx, _⟩ | rfl) | ⟨hx, _⟩)
      · exact .inr hx
      · exact .inl rfl
      · exact .inr hx
    · rintro (rfl | hx)
      · exact .inl (.inr rfl)
      · obtain low | high := lt_or_gt_of_ne (apart x hx)
        · exact .inl (.inl ⟨hx, low⟩)
        · exact .inr ⟨hx, high⟩
  refine ⟨?_, ?_, fun x hx => ?_, fun a bit => ?_⟩
  · have grown (u : List ProbeEntry) : (insertProbe e u).length ≤ u.length + 1 := by
      induction u with
      | nil => exact le_rfl
      | cons x u ih =>
        unfold insertProbe
        split_ifs <;> simp only [List.length_cons] <;> omega
    exact (grown t).trans room
  · rw [insertProbe_absent order absent, Ascending, List.append_assoc, List.pairwise_append]
    refine ⟨List.Pairwise.filter _ order, List.pairwise_cons.mpr ⟨fun y hy => ?_, List.Pairwise.filter _ order⟩,
      fun x hx y hy => ?_⟩
    · simpa using (List.mem_filter.mp hy).2
    · have low : x.load.address.toNat < e.load.address.toNat := by simpa using (List.mem_filter.mp hx).2
      obtain rfl | hy := List.mem_cons.mp hy
      · exact low
      · exact low.trans (by simpa using (List.mem_filter.mp hy).2)
  · obtain rfl | hx := (members x).mp hx
    · exact entry
    · exact entries x hx
  · obtain ⟨x, hx, rfl⟩ := List.mem_map.mp (named a bit)
    exact mem_addresses ((members x).mpr (.inr hx))

/-- A dropped entry goes with its PROBE_LOST subject (R37, R184). -/
theorem TableLawful.remove (a : Byte) (small : a.toNat < 128) :
    TableLawful (removeProbe a t) (lost &&& ~~~BitVec.twoPow 128 a.toNat) := by
  obtain ⟨room, order, entries, named⟩ := law
  refine ⟨(List.length_filter_le _ _).trans room, List.Pairwise.filter _ order,
    fun x hx => entries x (List.mem_of_mem_filter hx), fun b bit => ?_⟩
  rw [BitVec.getLsbD_and, Bool.and_eq_true, BitVec.getLsbD_not, BitVec.getLsbD_twoPow] at bit
  obtain ⟨old, apart⟩ := bit
  obtain ⟨x, hx, rfl⟩ := List.mem_map.mp (named b old)
  refine mem_addresses (List.mem_filter.mpr ⟨hx, ?_⟩)
  have other : x.load.address ≠ a := by
    rintro rfl
    simp [small] at apart
  simpa using other

/-- RESTART EVALUATION makes every entry fresh and empties PROBE_LOST (R45, R172). -/
theorem TableLawful.refreshed (now : Stamp) : TableLawful (t.map fun e => e.load.fresh now) 0 := by
  obtain ⟨room, order, entries, _⟩ := law
  refine ⟨by simpa using room, ascending_of_addresses ?_ order, fun x hx => ?_, fun a bit => ?_⟩
  · simp [addresses, ProbeLoad.fresh]
  · obtain ⟨e, he, rfl⟩ := List.mem_map.mp hx
    exact ProbeLoad.fresh_lawful (entries e he).1 now
  · rw [show (0 : BitVec 128).getLsbD a.toNat = false from BitVec.getLsbD_zero] at bit
    cases bit

end TableLawful

theorem tableLawful_nil : TableLawful [] 0 := by
  refine ⟨Nat.zero_le _, List.Pairwise.nil, fun e h => absurd h List.not_mem_nil, fun a bit => ?_⟩
  rw [show (0 : BitVec 128).getLsbD a.toNat = false from BitVec.getLsbD_zero] at bit
  cases bit

/-- A lawful entry's address has its place in the PROBE_LOST set. -/
theorem ProbeEntry.Lawful.address_lt {e : ProbeEntry} (law : e.Lawful) : e.load.address.toNat < 128 := by
  obtain ⟨range, _⟩ := law
  simp only [ProbeLoad.inRange, Bool.and_eq_true, decide_eq_true_eq] at range
  omega

end Sys2Proof.Machine

/-! SUPPORT. The Probe Table and the notice sets are lawful after every step: O53. -/

namespace Sys2Proof.Machine

open Sys2Proof

/-! ## The Probe Table -/

theorem probeTable_of_besideZones {s t : State} (h : t.besideZones = s.besideZones) (law : s.ProbeTableLawful) :
    t.ProbeTableLawful := by
  have same : t.besideZones.ProbeTableLawful := h ▸ law
  exact same

/-- Writing a lawful entry keeps the law; so does posting PROBE_LOST for an address of the table. -/
theorem probeTable_replace {s : State} (law : s.ProbeTableLawful) {e : ProbeEntry} (entry : e.Lawful) :
    (s.setProbes (replaceProbe e s.probes)).ProbeTableLawful :=
  (probeTableLawful_iff _).mpr (((probeTableLawful_iff s).mp law).replace entry)

theorem probeTable_post {s : State} (law : s.ProbeTableLawful) {a : Byte} (present : a ∈ addresses s.probes) :
    (s.post (.probeLost a)).ProbeTableLawful :=
  (probeTableLawful_iff _).mpr (((probeTableLawful_iff s).mp law).post present)

theorem State.ProbeTableLawful.entry {s : State} (law : s.ProbeTableLawful) {a : Byte} {e : ProbeEntry}
    (present : s.findProbe a = some e) : e.Lawful := by
  obtain ⟨_, _, entries, _⟩ := law
  exact entries e (State.findProbe_some present).2

/-- The entry found for an address stays in the table when any entry is written. -/
theorem address_mem_replaceProbe {s : State} {a : Byte} {e : ProbeEntry} (present : s.findProbe a = some e)
    (f : ProbeEntry) : e.load.address ∈ addresses (s.setProbes (replaceProbe f s.probes)).probes := by
  rw [State.setProbes_probes, addresses_replaceProbe]
  exact mem_addresses (State.findProbe_some present).2

theorem probeTable_countDamage {s : State} (law : s.ProbeTableLawful) {a : Byte} {e : ProbeEntry}
    (present : s.findProbe a = some e) : (s.countDamage e).ProbeTableLawful := by
  have entry := law.entry present
  obtain ⟨_, same⟩ | ⟨working, few, same⟩ | ⟨_, _, same⟩ := besideZones_countDamage s e
  · exact probeTable_of_besideZones same law
  · exact probeTable_of_besideZones same (probeTable_replace law (entry.counted working few))
  · exact probeTable_of_besideZones same
      (probeTable_post (probeTable_replace law entry.failed) (address_mem_replaceProbe present _))

theorem probeTable_goodSample {s : State} (law : s.ProbeTableLawful) {a : Byte} {e : ProbeEntry}
    (present : s.findProbe a = some e) (f : IntakeFrame) : (s.goodSample e f).ProbeTableLawful := by
  have heard := (law.entry present).heard s.counter f.stamp
  obtain ⟨_, same | ⟨_, _, same⟩⟩ | ⟨notAir, value, same⟩ := besideZones_goodSample s e f
  · exact probeTable_of_besideZones same (probeTable_replace law heard)
  · exact probeTable_of_besideZones same (s := (s.setProbes _).afterConversion _) (probeTable_replace law heard)
  · exact probeTable_of_besideZones same (probeTable_replace law (heard.valued notAir value))

theorem probeTable_dropEntry {s : State} (law : s.ProbeTableLawful) {a : Byte} {e : ProbeEntry}
    (present : s.findProbe a = some e) : (s.dropEntry e).ProbeTableLawful := by
  have removed := ((probeTableLawful_iff s).mp law).remove e.load.address (law.entry present).address_lt
  exact probeTable_of_besideZones (besideZones_evaluate _ _) ((probeTableLawful_iff _).mpr removed)

theorem probeTable_restartEvaluation {s : State} (law : s.ProbeTableLawful) : s.restartEvaluation.ProbeTableLawful := by
  obtain ⟨o, e⟩ := restartEvaluation_outputs s
  have fresh : s.forgetReports.freshProbes.ProbeTableLawful :=
    (probeTableLawful_iff _).mpr (((probeTableLawful_iff s).mp law).refreshed s.counter)
  have zones : s.zonesRestarted.ProbeTableLawful := probeTable_of_besideZones (besideZones_zonesRestarted s) fresh
  rw [e]
  exact zones

/-- LOAD PROBE writes a fresh entry at its place, new where there is room, or over the old one (R35). -/
theorem probeTable_load {s : State} (law : s.ProbeTableLawful) {p : ProbeLoad} (range : p.inRange = true)
    (room : s.findProbe p.address = none → s.probes.length < 96) :
    (s.setProbes (insertProbe (p.fresh s.counter) s.probes)).ProbeTableLawful := by
  have table := (probeTableLawful_iff s).mp law
  have entry := ProbeLoad.fresh_lawful range s.counter
  refine (probeTableLawful_iff _).mpr ?_
  by_cases present : p.address ∈ addresses s.probes
  · rw [State.setProbes_probes, insertProbe_present table.2.1 present]
    exact table.replace entry
  · exact table.insertNew entry present (room ((findProbe_eq_none_iff s _).mpr present))

theorem CommandEffect.probeTable {s t : State} (law : s.ProbeTableLawful) (h : CommandEffect s t) : t.ProbeTableLawful := by
  cases h with
  | restartEvaluation => exact probeTable_restartEvaluation law
  | restartFull => exact (probeTableLawful_iff _).mpr tableLawful_nil
  | loadNew p range _ room => exact probeTable_load law range fun _ => room
  | loadOver p old range present => exact probeTable_load law range fun absent => by simp [present] at absent
  | loadDisturbing p old range present =>
    exact probeTable_of_besideZones (besideZones_evaluate _ _)
      (probeTable_load law range fun absent => by simp [present] at absent)
  | dropEntry a e present => exact probeTable_dropEntry law present
  | enableZone z => exact probeTable_of_besideZones (besideZones_applyDecision s z _) law
  | disableZone z => exact probeTable_of_besideZones (besideZones_applyDecision s z _) law
  | clearWindow z =>
    have emptied : (s.setZone z (s.zone z).emptyWindow).ProbeTableLawful := law
    exact probeTable_of_besideZones (besideZones_evaluate _ z) emptied
  | setOutput i enabled zones band period fallback polarity =>
    obtain ⟨r, e⟩ := applyOutput_setOutput s i
      { s.output i with
        enabled := enabled, zones := zones, band := band, period := period, fallback := fallback, polarity := polarity }
    rw [e]
    exact law
  | setWetInput i => exact probeTable_of_besideZones (besideZones_recomputeFlags _ _) (s := s.setWetInput i _) law
  | acknowledgeNotices =>
    obtain ⟨room, order, entries, named⟩ := law
    refine ⟨room, order, entries, fun a bit => named a ?_⟩
    have both : (s.noticePending.probeLost &&& ~~~s.noticeArmed.probeLost).getLsbD a.toNat = true := bit
    rw [BitVec.getLsbD_and, Bool.and_eq_true] at both
    exact both.1
  | _ => exact law

theorem probeTable_tableLaw : TableLaw State.ProbeTableLawful where
  tables _ := Iff.rfl
  verdictSent h _ := h
  postLine _ h := h
  silence {s _ e} h present expired :=
    probeTable_of_besideZones (besideZones_silenceExpiry s e)
      (probeTable_post (probeTable_replace h ((h.entry present).stale (isSome_of_expired expired)))
        (address_mem_replaceProbe present _))
  slot {s z k} h _ := probeTable_of_besideZones (besideZones_slotExpiry s z k) h
  trend {s z a} h _ _ := probeTable_of_besideZones (besideZones_trendExpiry s z a) h
  persistence {s z _} h _ _ := probeTable_of_besideZones (besideZones_applyDecision s z _) h
  blind {s z} h _ := probeTable_of_besideZones (besideZones_blindExpiry s z) h
  qualification {s i} h _ := by
    obtain same | same := besideZones_qualificationExpiry s i
    · exact probeTable_of_besideZones same (s := s.setWetInput i _) h
    · exact probeTable_of_besideZones same (s := (s.setWetInput i _).post _) h
  boundary h _ _ := h
  duty h := h
  effect h effect := effect.probeTable h
  damage h present := probeTable_countDamage h present
  sample h present := probeTable_goodSample h present _
  wetLevel {s i high} h := by
    unfold State.wetLevel
    split <;> exact h
  wetPin h := h

/-! ## The notice sets (R179, R180) -/

/-- Every subject of `n` is in `m`. -/
def NoticeSets.Within (n m : NoticeSets) : Prop := n.without m = NoticeSets.none

theorem NoticeSets.within_iff (n m : NoticeSets) :
    n.Within m ↔
      n.wet &&& ~~~m.wet = 0 ∧ n.condensing &&& ~~~m.condensing = 0 ∧ n.risk &&& ~~~m.risk = 0 ∧
        n.blind &&& ~~~m.blind = 0 ∧ n.probeLost &&& ~~~m.probeLost = 0 ∧ n.arith &&& ~~~m.arith = 0 ∧
        n.line &&& ~~~m.line = 0 := by
  simp [NoticeSets.Within, NoticeSets.without, NoticeSets.none]

theorem NoticeSets.none_within (m : NoticeSets) : NoticeSets.none.Within m := by
  simp [NoticeSets.within_iff, NoticeSets.none]

theorem NoticeSets.within_self (m : NoticeSets) : m.Within m := by
  simp [NoticeSets.within_iff]

/-- A set stays within a set that grows. -/
theorem and_not_or_eq_zero {w : Nat} {a b : BitVec w} (h : a &&& ~~~b = 0) (c : BitVec w) : a &&& ~~~(b ||| c) = 0 := by
  simp [BitVec.not_or, ← BitVec.and_assoc, h]

/-- A subject removed from both sets leaves one within the other. -/
theorem and_not_and_eq_zero {w : Nat} {a b : BitVec w} (h : a &&& ~~~b = 0) (c : BitVec w) :
    (a &&& ~~~c) &&& ~~~(b &&& ~~~c) = 0 := by
  have bitwise : ∀ x y z : Bool, (x && !y) = false → ((x && !z) && !(y && !z)) = false := by decide
  refine BitVec.eq_of_getLsbD_eq fun k small => ?_
  have bit : (a &&& ~~~b).getLsbD k = false := by rw [h]; exact BitVec.getLsbD_zero
  refine Eq.trans ?_ (BitVec.getLsbD_zero (w := w) (i := k)).symm
  simp only [BitVec.getLsbD_and, BitVec.getLsbD_not, small, decide_true, Bool.true_and] at bit ⊢
  exact bitwise _ _ _ bit

theorem NoticeSets.Within.post {n m : NoticeSets} (h : n.Within m) (p : Posting) : n.Within (m.post p) := by
  rw [NoticeSets.within_iff] at h ⊢
  obtain ⟨wet, condensing, risk, blind, probeLost, arith, line⟩ := h
  cases p with
  | wet i => exact ⟨and_not_or_eq_zero wet _, condensing, risk, blind, probeLost, arith, line⟩
  | condensing z => exact ⟨wet, and_not_or_eq_zero condensing _, risk, blind, probeLost, arith, line⟩
  | risk z => exact ⟨wet, condensing, and_not_or_eq_zero risk _, blind, probeLost, arith, line⟩
  | blind z => exact ⟨wet, condensing, risk, and_not_or_eq_zero blind _, probeLost, arith, line⟩
  | probeLost a => exact ⟨wet, condensing, risk, blind, and_not_or_eq_zero probeLost _, arith, line⟩
  | arith c => exact ⟨wet, condensing, risk, blind, probeLost, and_not_or_eq_zero arith _, line⟩
  | line l => exact ⟨wet, condensing, risk, blind, probeLost, arith, and_not_or_eq_zero line _⟩

theorem NoticeSets.Within.postConditions {n m : NoticeSets} (h : n.Within m) (cs : Conditions) :
    n.Within (m.postConditions cs) := by
  rw [NoticeSets.within_iff] at h ⊢
  obtain ⟨wet, condensing, risk, blind, probeLost, arith, line⟩ := h
  exact ⟨wet, condensing, risk, blind, probeLost, and_not_or_eq_zero arith _, line⟩

theorem NoticeSets.Within.postEntered {n m : NoticeSets} (h : n.Within m) (z : Fin 24) (c : Change) :
    n.Within (postEntered z m c) := by
  unfold Machine.postEntered
  split
  · exact h.post _
  · exact h.post _
  · exact h.post _
  · exact h

theorem NoticeSets.Within.foldl_postEntered {n : NoticeSets} (z : Fin 24) (l : List Change) {m : NoticeSets}
    (h : n.Within m) : n.Within (l.foldl (Machine.postEntered z) m) := by
  induction l generalizing m with
  | nil => exact h
  | cons c l ih => exact ih (h.postEntered z c)

theorem NoticeSets.Within.dropProbe {n m : NoticeSets} (h : n.Within m) (a : Byte) :
    (n.dropProbe a).Within (m.dropProbe a) := by
  rw [NoticeSets.within_iff] at h ⊢
  obtain ⟨wet, condensing, risk, blind, probeLost, arith, line⟩ := h
  exact ⟨wet, condensing, risk, blind, and_not_and_eq_zero probeLost _, arith, line⟩

/-! ## Every armed subject is pending -/

section Armed

variable {s : State} (h : s.ArmedArePending)
include h

theorem armed_post (p : Posting) : (s.post p).ArmedArePending := NoticeSets.Within.post h p

theorem armed_applyDecision (z : Fin 24) (d : Decision) : (s.applyDecision z d).ArmedArePending :=
  NoticeSets.Within.foldl_postEntered z d.changes h

theorem armed_evaluate (z : Fin 24) : (s.evaluate z).ArmedArePending := armed_applyDecision h z _

theorem armed_writeWetFlag (z : Fin 24) : (s.writeWetFlag z).ArmedArePending := h

theorem armed_setZone (z : Fin 24) (r : Zone) : (s.setZone z r).ArmedArePending := h

theorem armed_setProbes (t : List ProbeEntry) : (s.setProbes t).ArmedArePending := h

theorem armed_setWetInput (i : Fin 4) (r : WetInput) : (s.setWetInput i r).ArmedArePending := h

theorem armed_recomputeFlags (zs : List (Fin 24)) : (s.recomputeFlags zs).ArmedArePending :=
  foldl_keeps State.ArmedArePending (fun _ z hz => armed_evaluate hz z) _ _
    (foldl_keeps State.ArmedArePending (fun _ z hz => armed_writeWetFlag hz z) _ s h)

theorem armed_push (z : Fin 24) (stamp : Stamp) (result : Option Int) : (s.push z stamp result).ArmedArePending := by
  unfold State.push
  split
  · exact armed_evaluate (armed_setZone h z _) z
  · exact h

theorem armed_updateProbe (e f : ProbeEntry) : (s.updateProbe e f).ArmedArePending := by
  obtain ⟨_, same⟩ | ⟨_, evaluated⟩ := s.updateProbe_cases e f
  · rw [same]
    exact h
  · rw [evaluated]
    exact armed_evaluate (armed_setProbes h _) _

theorem armed_dropEntry (e : ProbeEntry) : (s.dropEntry e).ArmedArePending := by
  have dropped (t : State) (armed : t.noticeArmed = s.noticeArmed.dropProbe e.load.address)
      (pending : t.noticePending = s.noticePending.dropProbe e.load.address) : t.ArmedArePending := by
    rw [State.ArmedArePending, armed, pending]
    exact NoticeSets.Within.dropProbe h e.load.address
  exact armed_evaluate (dropped _ rfl rfl) _

theorem armed_countDamage (e : ProbeEntry) : (s.countDamage e).ArmedArePending := by
  unfold State.countDamage
  split
  · exact h
  · split
    · exact armed_updateProbe h e _
    · exact armed_post (armed_updateProbe h e _) _

theorem armed_goodSample (e : ProbeEntry) (f : IntakeFrame) : (s.goodSample e f).ArmedArePending := by
  unfold State.goodSample
  split
  · unfold State.airSample
    dsimp only
    split
    · exact armed_push (armed_setProbes h _) _ _ _
    · have converted (v : Conversion) (t : List ProbeEntry) : ((s.setProbes t).afterConversion v).ArmedArePending :=
        NoticeSets.Within.postConditions h _
      split
      · exact armed_push (converted _ _) _ _ _
      · exact converted _ _
  · exact armed_updateProbe h e _

theorem armed_qualificationExpiry (i : Fin 4) : (s.qualificationExpiry i).ArmedArePending := by
  unfold State.qualificationExpiry
  dsimp only
  split
  · exact armed_post (armed_recomputeFlags (armed_setWetInput h i _) _) _
  · exact armed_recomputeFlags (armed_setWetInput h i _) _

end Armed

/-- With nothing armed, nothing armed is missing. -/
theorem armed_none {s : State} (h : s.noticeArmed = NoticeSets.none) : s.ArmedArePending := by
  rw [State.ArmedArePending, h]
  exact NoticeSets.none_within _

theorem CommandEffect.armed {s t : State} (law : s.ArmedArePending) (h : CommandEffect s t) : t.ArmedArePending := by
  cases h with
  | restartEvaluation =>
    obtain ⟨o, e⟩ := restartEvaluation_outputs s
    have same : s.zonesRestarted.noticeArmed = NoticeSets.none := (congrArg State.noticeArmed (besideZones_zonesRestarted s) :)
    rw [e]
    exact armed_none same
  | restartFull => exact armed_none rfl
  | loadDisturbing p old => exact armed_evaluate (armed_setProbes law _) _
  | dropEntry a e => exact armed_dropEntry law e
  | enableZone z => exact armed_applyDecision law z _
  | disableZone z => exact armed_applyDecision law z _
  | clearWindow z => exact armed_evaluate (armed_setZone law z _) z
  | setOutput i enabled zones band period fallback polarity =>
    obtain ⟨r, e⟩ := applyOutput_setOutput s i
      { s.output i with
        enabled := enabled, zones := zones, band := band, period := period, fallback := fallback, polarity := polarity }
    rw [e]
    exact law
  | setWetInput i => exact armed_recomputeFlags (armed_setWetInput law i _) _
  | armNotices => exact NoticeSets.within_self _
  | acknowledgeNotices => exact armed_none rfl
  | _ => exact law

theorem armed_tableLaw : TableLaw State.ArmedArePending where
  tables _ := Iff.rfl
  verdictSent h _ := h
  postLine l h := armed_post h (.line l)
  silence h _ _ := armed_post (armed_updateProbe h _ _) _
  slot {s z _} h _ := armed_evaluate (armed_setZone h z _) z
  trend {s z _} h _ _ := armed_evaluate (armed_setZone h z _) z
  persistence h _ _ := armed_applyDecision h _ _
  blind h _ := armed_applyDecision h _ _
  qualification h _ := armed_qualificationExpiry h _
  boundary h _ _ := h
  duty h := h
  effect h effect := effect.armed h
  damage h _ := armed_countDamage h _
  sample h _ := armed_goodSample h _ _
  wetLevel {s i high} h := by
    unfold State.wetLevel
    split <;> exact h
  wetPin h := h

theorem probeTableLawful_step {s t : State} (law : s.ProbeTableLawful) (e : step s = .next t) : t.ProbeTableLawful := by
  have rows := probeTable_tableLaw.eventLaw
  exact rows.step (fun _ _ h => h) (rows.tick fun _ h => h)
    (fun _ _ _ _ => (probeTableLawful_iff _).mpr tableLawful_nil) law e

theorem armedArePending_step {s t : State} (law : s.ArmedArePending) (e : step s = .next t) : t.ArmedArePending := by
  have rows := armed_tableLaw.eventLaw
  exact rows.step (fun _ _ h => h) (rows.tick fun _ h => h) (fun _ _ _ _ => armed_none rfl) law e

/-- Settles O53: both laws are laws of the tables, and every row keeps such a law. -/
theorem probeTableAndNoticesStayLawful : Obligations.ProbeTableAndNoticesStayLawful := by
  unfold Obligations.ProbeTableAndNoticesStayLawful
  intro s t ⟨table, armed⟩ e
  exact ⟨probeTableLawful_step table e, armedArePending_step armed e⟩

end Sys2Proof.Machine

/-! SUPPORT. What an evaluation decides, case by case, and what it does to the part: O50. -/

namespace Sys2Proof.Machine

open Sys2Proof Slice0

/-! ## The take-up -/

/-- What a take-up leaves of persistence: it is armed afresh from its stamp when P changes (R114). -/
def Zone.keptPersistence (now : Stamp) (z : Zone) : Option Persistence :=
  if (z.staged.getD z.active).p = z.active.p then z.persistence
  else z.persistence.map fun q => { q with arming := setDeadline now q.stamp (z.staged.getD z.active).p }

/-- The record a take-up leaves. -/
theorem Zone.takeUp_eq (now : Stamp) (z : Zone) :
    z.takeUp now =
      { z with active := z.staged.getD z.active, staged := none, persistence := z.keptPersistence now } := by
  unfold Zone.takeUp Zone.keptPersistence
  split
  · next unstaged => obtain ⟨⟩ := z; subst unstaged; simp
  · next t some => simp [some]

/-! ## State changes along a path of states -/

/-- The changes of a zone that passes the given states one after the other by its margin (R117 to R121). -/
def climb (r : Readings) : ZoneState → List ZoneState → List Change
  | _, [] => []
  | f, g :: path =>
    { fromState := f, toState := g, cause := if f = .blind then .restore else .margin, readings := r } :: climb r g path

theorem climb_toState (r : Readings) (f : ZoneState) (path : List ZoneState) : (climb r f path).map Change.toState = path := by
  induction path generalizing f with
  | nil => rfl
  | cons g path ih => simp [climb, ih]

theorem climb_fromState (r : Readings) (f : ZoneState) (path : List ZoneState) :
    (climb r f path).map Change.fromState = (f :: path).dropLast := by
  induction path generalizing f with
  | nil => rfl
  | cons g path ih => simp [climb, ih]

theorem climb_readings {r : Readings} {f : ZoneState} {path : List ZoneState} {e : Change} (h : e ∈ climb r f path) :
    e.readings = r ∧ e.cause = if e.fromState = .blind then .restore else .margin := by
  induction path generalizing f with
  | nil => simp [climb] at h
  | cons g path ih =>
    obtain rfl | later := List.mem_cons.mp h
    · exact ⟨rfl, rfl⟩
    · exact ih later

/-! ## The fifth to seventh risk steps -/

/-- From a level, with a candidate, the zone is raised or lowered along its path (R119 to R121). -/
theorem Decision.raise_lower (d : Decision) (now : Stamp) {c : ZoneState} (m p : Int) (r : Readings)
    (level : d.zone.state.isLevel = true) (candidate : c.isLevel = true) :
    (d.raise now c r).lower c m p r =
      { zone :=
          { d.zone with
            state := settledLevel d.zone.active d.zone.state c m p
            persistence := settledPersistence now d.zone.active d.zone.state c d.zone.persistence }
        changes :=
          d.changes ++
            climb r d.zone.state (levelPath d.zone.state (settledLevel d.zone.active d.zone.state c m p)) } := by
  obtain ⟨⟨_, _, _, _, _, t, _, _, _, _, _, _, f, q, _, _⟩, changes⟩ := d
  by_cases toRisk : (t.h : Int) ≤ m <;> by_cases toWatch : (t.k + t.h : Int) ≤ m <;>
    by_cases toClear : (t.w + t.h : Int) ≤ m ∧ (t.k + t.h : Int) ≤ p
  all_goals
    cases c with
    | dormant | blind => contradiction
    | condensing | risk | watch | clear =>
      cases f with
      | dormant | blind => contradiction
      | clear | watch | risk | condensing =>
        cases q <;> simp [Decision.raise, Decision.lower, Decision.stepDown, Decision.move, Decision.persist,
          Decision.disarmPersistence, ZoneState.rank, settledLevel, settledPersistence, levelPath, climb, toRisk, toWatch,
          toClear]

/-- The level a known margin finds the zone at: BLIND passes CLEAR first (R117). -/
def wakingLevel (f : ZoneState) : ZoneState := if f = .blind then .clear else f

theorem candidateOf_isLevel (t : Thresholds) (m p : Int) : (candidateOf t m p).isLevel = true := by
  unfold candidateOf
  split_ifs <;> rfl

/-- The risk steps with the margin known (R117 to R121). -/
theorem Decision.ordered_eq (z : Zone) (now : Stamp) (m p : Int) (r : Readings) (awake : z.state ≠ .dormant) :
    z.untouched.ordered now m p r =
      let c := candidateOf z.active m p
      let next := settledLevel z.active (wakingLevel z.state) c m p
      { zone :=
          { z with
            state := next
            persistence := settledPersistence now z.active (wakingLevel z.state) c z.persistence
            blind := none }
        changes :=
          climb r z.state
            ((if z.state = .blind then [.clear] else []) ++ levelPath (wakingLevel z.state) next) } := by
  unfold Decision.ordered
  dsimp only [Decision.disarmBlind, Zone.untouched]
  by_cases blind : z.state = .blind
  · simp only [blind, if_true, Decision.move, reduceCtorEq, if_false]
    rw [Decision.raise_lower _ _ _ _ _ rfl (candidateOf_isLevel _ _ _)]
    simp [wakingLevel, climb]
  · have level : z.state.isLevel = true := by
      cases h : z.state <;> simp_all [ZoneState.isLevel]
    simp only [blind, if_false]
    rw [Decision.raise_lower _ _ _ _ _ level (candidateOf_isLevel _ _ _)]
    simp [wakingLevel, blind]

/-! ## An evaluation, case by case -/

section Evaluation

variable {z : Zone} (now : Stamp) (x : Option Int)

/-- A zone's record with its staged set taken up, in a state and with both deadlines given. -/
def Zone.decided (z : Zone) (next : ZoneState) (persistence : Option Persistence) (blind : Deadline) : Zone :=
  { z with
    active := z.staged.getD z.active, staged := none, state := next, persistence := persistence, blind := blind }

theorem Zone.evaluate_disabled (off : z.enabled = false) : z.untouched.evaluate now x = z.untouched := by
  simp [Decision.evaluate, Zone.untouched, off]

/-- An evaluation takes up the staged set and decides by the risk steps, on the aggregates as they stand (R106). -/
theorem Zone.evaluate_enabled (on : z.enabled = true) :
    z.untouched.evaluate now x = (z.takeUp now).untouched.riskSteps now (z.readings x) := by
  have same : (z.takeUp now).readings x = z.readings x := by rw [Zone.takeUp_eq]; rfl
  rw [← same]
  exact if_pos on

theorem Zone.takeUp_wet : (z.takeUp now).wet = z.wet := by rw [Zone.takeUp_eq]

theorem Zone.evaluate_wet (on : z.enabled = true) (wet : z.wet = true) :
    z.untouched.evaluate now x =
      { zone := z.decided .condensing none none
        changes :=
          if z.state = .condensing then []
          else [{ fromState := z.state, toState := .condensing, cause := .wet, readings := z.readings x }] } := by
  have isWet : (z.takeUp now).untouched.zone.wet = true := (Zone.takeUp_wet now).trans wet
  rw [Zone.evaluate_enabled now x on, Decision.riskSteps, if_pos isWet, Zone.takeUp_eq]
  unfold Decision.wetStep Decision.move
  by_cases h : z.state = .condensing
  · simp [Zone.untouched, Decision.disarmPersistence, Decision.disarmBlind, Zone.decided, h]
  · simp [Zone.untouched, Decision.disarmPersistence, Decision.disarmBlind, Zone.decided, h]

theorem Zone.evaluate_unordered (on : z.enabled = true) (dry : z.wet = false) (unknown : (z.readings x).m = none) :
    z.untouched.evaluate now x =
      { zone :=
          z.decided z.state none
            (if z.state.isLevel = true then some (z.blind.getD (setDeadline now now z.grace)) else z.blind)
        changes := [] } := by
  have notWet : ¬ (z.takeUp now).untouched.zone.wet = true := by simp [Zone.untouched, Zone.takeUp_wet, dry]
  rw [Zone.evaluate_enabled now x on, Decision.riskSteps, if_neg notWet, unknown, Zone.takeUp_eq]
  cases z.blind <;> cases level : z.state.isLevel <;>
    simp [Zone.untouched, Decision.unordered, Decision.disarmPersistence, Zone.decided, level]

theorem Zone.evaluate_ordered (on : z.enabled = true) (dry : z.wet = false) (awake : z.state ≠ .dormant) {m p : Int}
    (known : (z.readings x).m = some m) (projected : z.projected x = some p) :
    z.untouched.evaluate now x =
      let t := z.staged.getD z.active
      let c := candidateOf t m p
      let next := settledLevel t (wakingLevel z.state) c m p
      { zone :=
          z.decided next (settledPersistence now t (wakingLevel z.state) c (z.keptPersistence now)) none
        changes :=
          climb (z.readings x) z.state
            ((if z.state = .blind then [.clear] else []) ++ levelPath (wakingLevel z.state) next) } := by
  have notWet : ¬ (z.takeUp now).untouched.zone.wet = true := by simp [Zone.untouched, Zone.takeUp_wet, dry]
  have ahead : projectFrom m z.slope z.lookahead = p := by simpa [Zone.projected, known] using projected
  have sameAhead : projectFrom m (z.takeUp now).slope (z.takeUp now).lookahead = p := by rw [Zone.takeUp_eq]; exact ahead
  rw [Zone.evaluate_enabled now x on, Decision.riskSteps, if_neg notWet, known]
  dsimp only [Zone.untouched]
  rw [sameAhead]
  refine (Decision.ordered_eq (z.takeUp now) now m p (z.readings x) (by rw [Zone.takeUp_eq]; exact awake)).trans ?_
  rw [Zone.takeUp_eq]
  rfl

end Evaluation

/-! ## What a decision does to the part -/

theorem State.evaluate_dormant {s : State} {z : Fin 24} (off : (s.zone z).enabled = false) : s.evaluate z = s :=
  (State.evaluate_disabled off).trans (s.setZone_self z)

/-- The path to the settled level ends in it. -/
theorem levelPath_getLast (t : Thresholds) {f c : ZoneState} (m p : Int) (level : f.isLevel = true)
    (candidate : c.isLevel = true) :
    (f :: levelPath f (settledLevel t f c m p)).getLast? = some (settledLevel t f c m p) := by
  by_cases toRisk : (t.h : Int) ≤ m <;> by_cases toWatch : (t.k + t.h : Int) ≤ m <;>
    by_cases toClear : (t.w + t.h : Int) ≤ m ∧ (t.k + t.h : Int) ≤ p
  all_goals
    cases c with
    | dormant | blind => contradiction
    | condensing | risk | watch | clear =>
      cases f with
      | dormant | blind => contradiction
      | clear | watch | risk | condensing => simp [settledLevel, levelPath, toRisk, toWatch, toClear]

theorem wakingLevel_isLevel {f : ZoneState} (awake : f ≠ .dormant) : (wakingLevel f).isLevel = true := by
  cases f with
  | dormant => contradiction
  | blind | clear | watch | risk | condensing => rfl

/-- From BLIND through CLEAR, or from the level itself: the whole path ends in the settled level. -/
theorem wakingPath_getLast (t : Thresholds) {f c : ZoneState} (m p : Int) (awake : f ≠ .dormant)
    (candidate : c.isLevel = true) :
    (f :: ((if f = .blind then [.clear] else []) ++
        levelPath (wakingLevel f) (settledLevel t (wakingLevel f) c m p))).getLast? =
      some (settledLevel t (wakingLevel f) c m p) := by
  have last := levelPath_getLast t m p (wakingLevel_isLevel awake) candidate
  by_cases blind : f = .blind
  · simpa [blind, wakingLevel] using last
  · simpa [blind, wakingLevel] using last

/-- Settles O50: the three cases of the risk steps, and the one decision a part makes of them. -/
theorem evaluationDecidesByTheRiskSteps : Obligations.EvaluationDecidesByTheRiskSteps := by
  unfold Obligations.EvaluationDecidesByTheRiskSteps
  refine ⟨fun z now x on awake => ⟨fun wet => ?_, fun dry unknown => ?_, fun m p dry known projected => ?_⟩,
    fun s k => ⟨State.evaluate_dormant, fun _ => rfl⟩, fun s k d => ⟨?_, s.applyDecision_zone_same k d,
      fun y other => s.applyDecision_zone_other d other, fun still => ?_, fun moved => ?_⟩⟩
  · rw [Zone.evaluate_wet now x on wet]
    exact ⟨rfl, rfl⟩
  · rw [Zone.evaluate_unordered now x on dry unknown]
    refine ⟨?_, rfl⟩
    by_cases blind : z.state = .blind
    · simp [Zone.decided, blind, ZoneState.isLevel]
    · have level : z.state.isLevel = true := by
        cases h : z.state <;> simp_all [ZoneState.isLevel]
      cases z.blind <;> simp [Zone.decided, blind, level]
  · rw [Zone.evaluate_ordered now x on dry awake known projected]
    dsimp only
    rw [climb_toState, climb_fromState]
    exact ⟨rfl, rfl, rfl, wakingPath_getLast _ _ _ awake (candidateOf_isLevel _ _ _), fun e => climb_readings⟩
  · simp only [State.applyDecision, foldl_postEntered]
  · simp [State.applyDecision, still]
  · rw [← State.alertNow_iff]
    simp [State.applyDecision, moved, State.setZone, State.alertNow]
    rfl

end Sys2Proof.Machine

/-! SUPPORT. Every zone keeps the laws of its record: O55. -/

namespace Sys2Proof.Machine

open Sys2Proof Slice0

/-! ## The laws of one record -/

/-- The laws of a zone record but for the one of the wet flag, which an evaluation restores (R115). -/
structure Zone.Sound (z : Zone) : Prop where
  dormant : z.state = .dormant ↔ z.enabled = false
  closed : z.enabled = false → z.persistence = none ∧ z.blind = none ∧ ∀ k : Fin 8, z.slot k = .empty
  trend : z.trendDeadline.isSome = true ↔ z.enabled = true ∧ 0 < z.interval
  watched : z.persistence.isSome = true → z.state = .watch
  level : z.blind.isSome = true → z.state.isLevel = true
  active : z.active.k < z.active.w
  staged : ∀ t, z.staged = some t → t.k < t.w

/-- The law of the wet flag (R115). -/
def Zone.WetSettled (z : Zone) : Prop := z.enabled = true → z.wet = true → z.state = .condensing ∧ z.blind = none

theorem Zone.lawful_iff (z : Zone) : z.Lawful ↔ z.Sound ∧ z.WetSettled := by
  constructor
  · rintro ⟨dormant, closed, trend, watched, level, wet, active, staged⟩
    exact ⟨⟨dormant, closed, trend, watched, level, active, staged⟩, wet⟩
  · rintro ⟨⟨dormant, closed, trend, watched, level, active, staged⟩, wet⟩
    exact ⟨dormant, closed, trend, watched, level, wet, active, staged⟩

theorem Zone.Lawful.sound {z : Zone} (h : z.Lawful) : z.Sound := ((Zone.lawful_iff z).mp h).1

theorem Zone.Lawful.wetSettled {z : Zone} (h : z.Lawful) : z.WetSettled := ((Zone.lawful_iff z).mp h).2

theorem Zone.Sound.awake {z : Zone} (h : z.Sound) (on : z.enabled = true) : z.state ≠ .dormant := by
  intro asleep
  simp [h.dormant.mp asleep] at on

/-- A zone that is not DORMANT is enabled. -/
theorem Zone.Sound.enabled_of_awake {z : Zone} (h : z.Sound) (awake : z.state ≠ .dormant) : z.enabled = true := by
  cases on : z.enabled
  · exact absurd (h.dormant.mpr on) awake
  · rfl

theorem Zone.Sound.lawful_of_disabled {z : Zone} (h : z.Sound) (off : z.enabled = false) : z.Lawful :=
  (Zone.lawful_iff z).mpr ⟨h, fun on => by simp [off] at on⟩

/-! ## An evaluation leaves a lawful record -/

theorem settledLevel_isLevel (t : Thresholds) {f c : ZoneState} (m p : Int) (level : f.isLevel = true)
    (candidate : c.isLevel = true) : (settledLevel t f c m p).isLevel = true := by
  by_cases toRisk : (t.h : Int) ≤ m <;> by_cases toWatch : (t.k + t.h : Int) ≤ m <;>
    by_cases toClear : (t.w + t.h : Int) ≤ m ∧ (t.k + t.h : Int) ≤ p
  all_goals
    cases c with
    | dormant | blind => contradiction
    | condensing | risk | watch | clear =>
      cases f with
      | dormant | blind => contradiction
      | clear | watch | risk | condensing => simp [settledLevel, ZoneState.isLevel, toRisk, toWatch, toClear]

/-- Persistence is left armed only in WATCH (R120). -/
theorem settledLevel_of_settledPersistence (now : Stamp) (t : Thresholds) {f c : ZoneState} (m p : Int)
    {q : Option Persistence} (level : f.isLevel = true) (candidate : c.isLevel = true)
    (watched : q.isSome = true → f = .watch) (armed : (settledPersistence now t f c q).isSome = true) :
    settledLevel t f c m p = .watch := by
  cases c with
  | dormant | blind => contradiction
  | condensing | risk | watch | clear =>
    cases f with
    | dormant | blind => contradiction
    | clear | watch | risk | condensing => simp_all [settledLevel, settledPersistence]

theorem Zone.keptPersistence_isSome (now : Stamp) (z : Zone) : (z.keptPersistence now).isSome = z.persistence.isSome := by
  unfold Zone.keptPersistence
  split <;> simp

section Evaluation

variable {z : Zone} (sound : z.Sound) (on : z.enabled = true)
include sound on

theorem Zone.Sound.decided {next : ZoneState} {persistence : Option Persistence} {blind : Deadline}
    (awake : next ≠ .dormant) (watched : persistence.isSome = true → next = .watch)
    (level : blind.isSome = true → next.isLevel = true) (wet : z.wet = true → next = .condensing ∧ blind = none) :
    (z.decided next persistence blind).Lawful := by
  refine (Zone.lawful_iff _).mpr ⟨⟨?_, ?_, sound.trend, watched, level, ?_, ?_⟩, fun _ => wet⟩
  · simp [Zone.decided, on, awake]
  · simp [Zone.decided, on]
  · have staged := sound.staged
    have active := sound.active
    cases h : z.staged <;> simp_all [Zone.decided]
  · simp [Zone.decided]

theorem Zone.Sound.evaluate (now : Stamp) (x : Option Int) : (z.untouched.evaluate now x).zone.Lawful := by
  have awake := sound.awake on
  cases wet : z.wet with
  | true =>
    rw [Zone.evaluate_wet now x on wet]
    exact sound.decided on (by simp) (by simp) (by simp) (by simp)
  | false =>
    cases known : (z.readings x).m with
    | none =>
      rw [Zone.evaluate_unordered now x on wet known]
      refine sound.decided on awake (by simp) (fun armed => ?_) (by simp [wet])
      cases level : z.state.isLevel with
      | true => rfl
      | false => exact absurd (sound.level (by simpa [level] using armed)) (by simp [level])
    | some m =>
      have projected : z.projected x = some (projectFrom m z.slope z.lookahead) := by simp [Zone.projected, known]
      rw [Zone.evaluate_ordered now x on wet awake known projected]
      have candidate := candidateOf_isLevel (z.staged.getD z.active) m (projectFrom m z.slope z.lookahead)
      have waking := wakingLevel_isLevel awake
      refine sound.decided on ?_ ?_ (by simp) (by simp [wet])
      · intro asleep
        have := settledLevel_isLevel (z.staged.getD z.active) m (projectFrom m z.slope z.lookahead) waking candidate
        simp [asleep, ZoneState.isLevel] at this
      · refine settledLevel_of_settledPersistence now _ m _ waking candidate fun armed => ?_
        rw [Zone.keptPersistence_isSome] at armed
        simp [wakingLevel, sound.watched armed]

end Evaluation

theorem Zone.evaluate_lawful {z : Zone} (sound : z.Sound) (now : Stamp) (x : Option Int) :
    (z.untouched.evaluate now x).zone.Lawful := by
  cases on : z.enabled with
  | true => exact sound.evaluate on now x
  | false =>
    rw [Zone.evaluate_disabled now x on]
    exact sound.lawful_of_disabled on

/-! ## Zones made BLIND afresh: ENABLE ZONE and RESTART EVALUATION -/

/-- The decision of a zone made BLIND afresh and evaluated with its window empty (R124, R130). -/
def Zone.reawakening (now : Stamp) (x : Option Int) (z : Zone) : Decision :=
  { zone := reawakened now z
    changes :=
      (if z.state = .blind then []
        else [{ fromState := z.state, toState := .blind, cause := .enable, readings := Readings.unseen x }]) ++
      (if z.wet = true then
          [{ fromState := .blind, toState := .condensing, cause := .wet, readings := Readings.unseen x }]
        else []) }

/-- With its window empty, a zone's readings are those of a zone not yet seen. -/
theorem Zone.readings_emptyWindow (z : Zone) (x : Option Int) (h : z.slots = noSlots) : z.readings x = Readings.unseen x := by
  have unknown : z.dew = none := by rw [Zone.dew, h]; rfl
  cases x <;> simp [Zone.readings, Readings.unseen, unknown, marginOf]

/-- An evaluation adds its changes to those already made. -/
theorem Decision.evaluate_blind_empty (now : Stamp) (x : Option Int) (z : Zone) (changes : List Change)
    (on : z.enabled = true) (blind : z.state = .blind) (calm : z.blind = none) (empty : z.slots = noSlots) :
    Decision.evaluate { zone := z, changes := changes } now x =
      { zone := z.decided (if z.wet = true then .condensing else .blind) none none
        changes :=
          changes ++
            if z.wet = true then
              [{ fromState := .blind, toState := .condensing, cause := .wet, readings := Readings.unseen x }]
            else [] } := by
  have unseen : (z.takeUp now).readings x = Readings.unseen x :=
    Zone.readings_emptyWindow _ x (by rw [Zone.takeUp_eq]; exact empty)
  have unknown : (Readings.unseen x).m = none := rfl
  simp only [Decision.evaluate, on, if_true, unseen, Decision.riskSteps, unknown]
  rw [Zone.takeUp_eq]
  cases wet : z.wet <;>
    simp [Decision.wetStep, Decision.unordered, Decision.move, Decision.disarmPersistence, Decision.disarmBlind,
      Zone.decided, blind, calm, ZoneState.isLevel, wet]

/-- The record of a zone made BLIND afresh, before its state is moved (R124, R130). -/
def Zone.afresh (now : Stamp) (z : Zone) : Zone :=
  Zone.freshTrend now (Zone.emptyWindow { z with enabled := true, persistence := none, blind := none })

theorem Zone.enable_eq (now : Stamp) (x : Option Int) (z : Zone) : z.enable now x = z.reawakening now x := by
  change Decision.evaluate ((z.afresh now).untouched.move .blind .enable (Readings.unseen x)) now x = _
  obtain ⟨blind, e⟩ | ⟨blind, e⟩ := (z.afresh now).untouched.move_cases .blind .enable (Readings.unseen x)
  · rw [e, Zone.untouched, Decision.evaluate_blind_empty now x (z.afresh now) [] rfl blind rfl rfl]
    have was : z.state = .blind := blind
    simp [Zone.reawakening, was]
    exact ⟨rfl, rfl⟩
  · rw [e]
    refine (Decision.evaluate_blind_empty now x { z.afresh now with state := .blind } _ rfl rfl rfl rfl).trans ?_
    have was : z.state ≠ .blind := blind
    simp [Zone.reawakening, was]
    exact ⟨rfl, rfl⟩

theorem Zone.restart_eq (now : Stamp) (x : Option Int) {z : Zone} (on : z.enabled = true) :
    z.restart now x = z.reawakening now x := by
  have same : ({ z with persistence := none, blind := none } : Zone) =
      { z with enabled := true, persistence := none, blind := none } := by rw [← on]
  rw [← Zone.enable_eq, Zone.restart, Zone.enable, same]

theorem reawakened_lawful (now : Stamp) {z : Zone} (sound : z.Sound) : (reawakened now z).Lawful := by
  have staged := sound.staged
  have active := sound.active
  refine (Zone.lawful_iff _).mpr ⟨⟨?_, ?_, ?_, ?_, ?_, ?_, ?_⟩, ?_⟩
  · simp [reawakened]
    split <;> simp
  · simp [reawakened]
  · simp [reawakened, trendFrom]
  · simp [reawakened]
  · simp [reawakened]
  · cases h : z.staged <;> simp_all [reawakened]
  · simp [reawakened]
  · intro _ wet
    have isWet : z.wet = true := wet
    simp [reawakened, isWet]

/-! ## The other operations on a record -/

section Records

variable {z : Zone} (h : z.Lawful)
include h

theorem Zone.Lawful.emptyWindow : z.emptyWindow.Sound := by
  have sound := h.sound
  exact ⟨sound.dormant, fun off => ⟨(sound.closed off).1, (sound.closed off).2.1, fun k => by simp [Zone.slot, Zone.emptyWindow]⟩,
    sound.trend, sound.watched, sound.level, sound.active, sound.staged⟩

theorem Zone.Lawful.expireSlot (k : Fin 8) : (z.expireSlot k).Sound := by
  have sound := h.sound
  refine ⟨sound.dormant, fun off => ?_, sound.trend, sound.watched, sound.level, sound.active, sound.staged⟩
  obtain ⟨unarmed, calm, empty⟩ := sound.closed off
  refine ⟨unarmed, calm, fun j => ?_⟩
  have slot := empty j
  simp only [Zone.slot, Zone.expireSlot, Fin.getElem_fin, Vector.getElem_set] at slot ⊢
  split
  · rfl
  · exact slot

theorem Zone.Lawful.push (on : z.enabled = true) (now stamp : Stamp) (result : Option Int) :
    (z.push now stamp result).Sound := by
  have sound := h.sound
  have closed (off : z.enabled = false) : False := by simp [on] at off
  exact ⟨sound.dormant, fun off => (closed off).elim, sound.trend, sound.watched, sound.level, sound.active, sound.staged⟩

theorem Zone.Lawful.trendStep {d : Arming} (armed : z.trendDeadline = some d) (a : Arming) : (z.trendStep a).Sound := by
  have sound := h.sound
  have running : z.enabled = true ∧ 0 < z.interval := sound.trend.mp (by simp [armed])
  exact ⟨sound.dormant, sound.closed, ⟨fun _ => running, fun _ => rfl⟩, sound.watched, sound.level, sound.active, sound.staged⟩

theorem Zone.Lawful.stage {t : Thresholds} (range : t.inRange = true) : ({ z with staged := some t } : Zone).Lawful := by
  have sound := h.sound
  obtain ⟨_, below, _⟩ := (Thresholds.inRange_iff t).mp range
  refine (Zone.lawful_iff _).mpr ⟨⟨sound.dormant, sound.closed, sound.trend, sound.watched, sound.level, sound.active, ?_⟩,
    h.wetSettled⟩
  rintro _ ⟨⟩
  exact below

theorem Zone.Lawful.configure (now : Stamp) (a i l g : Nat) : (z.configure now a i l g).Lawful := by
  have sound := h.sound
  rw [Zone.configure_eq]
  refine (Zone.lawful_iff _).mpr
    ⟨⟨sound.dormant, fun off => ?_, ?_, sound.watched, sound.level, sound.active, sound.staged⟩, h.wetSettled⟩
  · obtain ⟨unarmed, calm, empty⟩ := sound.closed off
    refine ⟨unarmed, calm, fun k => ?_⟩
    have slot := empty k
    simp only [Zone.slot, Fin.getElem_fin] at slot ⊢
    split
    · exact slot
    · rw [Vector.getElem_map, slot]
      rfl
  · have trend := sound.trend
    by_cases same : i = z.interval
    · subst same
      simpa using trend
    · cases on : z.enabled <;> simp_all

end Records

/-! ## A zone disabled -/

/-- The record DISABLE ZONE leaves (R125). -/
def Zone.closed (z : Zone) : Zone :=
  { z with
    enabled := false, state := .dormant, persistence := none, blind := none, trendStart := none, slope := none
    trendDeadline := none, slots := noSlots }

theorem Zone.disable_eq (x : Option Int) {z : Zone} (awake : z.state ≠ .dormant) :
    z.disable x =
      { zone := z.closed
        changes := [{ fromState := z.state, toState := .dormant, cause := .disable, readings := Readings.unseen x }] } := by
  have moves : ¬ z.state = .dormant := awake
  simp only [Zone.disable, Decision.move, Zone.untouched, Zone.emptyWindow, moves, if_false]
  rfl

theorem Zone.Sound.closed_lawful {z : Zone} (h : z.Sound) : z.closed.Lawful := by
  refine Zone.Sound.lawful_of_disabled ⟨?_, fun _ => ⟨rfl, rfl, fun k => ?_⟩, ?_, ?_, ?_, h.active, h.staged⟩ rfl
  · simp [Zone.closed]
  · simp [Zone.slot, Zone.closed, noSlots]
  · simp [Zone.closed]
  · simp [Zone.closed]
  · simp [Zone.closed]

theorem powerOn_lawful : Zone.powerOn.Lawful := by
  refine (Zone.lawful_iff _).mpr ⟨⟨?_, fun _ => ⟨rfl, rfl, fun k => ?_⟩, ?_, ?_, ?_, ?_, ?_⟩, ?_⟩
  · decide
  · simp [Zone.slot, Zone.powerOn]
  all_goals simp [Zone.powerOn, Thresholds.powerOn, Zone.WetSettled]

/-! ## The expiries of the risk record -/

theorem Zone.Lawful.persistenceExpiry {z : Zone} (h : z.Lawful) {p : Persistence} (armed : z.persistence = some p)
    (x : Option Int) : (z.persistenceExpiry p x).zone.Lawful := by
  have sound := h.sound
  have watch : z.state = .watch := sound.watched (by simp [armed])
  have on : z.enabled = true := sound.enabled_of_awake (by simp [watch])
  have dry : ¬ z.wet = true := fun wet => absurd (h.wetSettled on wet).1 (by simp [watch])
  have entered : (z.persistenceExpiry p x).zone = { z with state := p.candidate.state, persistence := none } := by
    cases c : p.candidate <;>
      simp [Zone.persistenceExpiry, Decision.disarmPersistence, Decision.move, Zone.untouched, watch, Raised.state, c]
  rw [entered]
  refine (Zone.lawful_iff _).mpr ⟨⟨?_, ?_, sound.trend, ?_, ?_, sound.active, sound.staged⟩, fun _ wet => absurd wet dry⟩
  · cases p.candidate <;> simp [Raised.state, on]
  · simp [on]
  · simp
  · cases p.candidate <;> simp [Raised.state, ZoneState.isLevel]

theorem Zone.Lawful.blindExpiry {z : Zone} (h : z.Lawful) (armed : z.blind.isSome = true) (x : Option Int) :
    (z.blindExpiry x).zone.Lawful := by
  have sound := h.sound
  have level : z.state.isLevel = true := sound.level armed
  have on : z.enabled = true := sound.enabled_of_awake fun asleep => by simp [asleep, ZoneState.isLevel] at level
  have dry : ¬ z.wet = true := fun wet => by simp [(h.wetSettled on wet).2] at armed
  have lit : z.state ≠ .blind := fun blind => by simp [blind, ZoneState.isLevel] at level
  have entered : (z.blindExpiry x).zone = { z with state := .blind, persistence := none, blind := none } := by
    simp [Zone.blindExpiry, Decision.disarmPersistence, Decision.disarmBlind, Decision.move, Zone.untouched, lit]
  rw [entered]
  refine (Zone.lawful_iff _).mpr ⟨⟨?_, ?_, sound.trend, ?_, ?_, sound.active, sound.staged⟩, fun _ wet => absurd wet dry⟩
  all_goals simp [on]

/-! ## The zones of the part -/

theorem zones_applyDecision {s : State} (h : s.ZonesLawful) {z : Fin 24} {d : Decision} (lawful : d.zone.Lawful) :
    (s.applyDecision z d).ZonesLawful := by
  intro y
  by_cases own : y = z
  · rw [own, State.applyDecision_zone_same]
    exact lawful
  · rw [State.applyDecision_zone_other _ _ own]
    exact h y

theorem zones_setZone {s : State} (h : s.ZonesLawful) {z : Fin 24} {r : Zone} (lawful : r.Lawful) :
    (s.setZone z r).ZonesLawful := zones_applyDecision (d := { zone := r, changes := [] }) h lawful

/-- Every zone is sound, and lawful but for those still to be evaluated. -/
def State.ZonesLawfulBut (s : State) (l : List (Fin 24)) : Prop := ∀ z, (s.zone z).Sound ∧ (z ∉ l → (s.zone z).Lawful)

theorem zones_but_nil {s : State} : s.ZonesLawfulBut [] ↔ s.ZonesLawful :=
  ⟨fun h z => (h z).2 List.not_mem_nil, fun h z => ⟨(h z).sound, fun _ => h z⟩⟩

theorem zones_but_evaluate {s : State} {z : Fin 24} {l : List (Fin 24)} (h : s.ZonesLawfulBut (z :: l)) :
    (s.evaluate z).ZonesLawfulBut l := by
  intro y
  by_cases own : y = z
  · have lawful : ((s.evaluate z).zone y).Lawful := by
      rw [own, State.evaluate, State.applyDecision_zone_same]
      exact Zone.evaluate_lawful (h z).1 _ _
    exact ⟨lawful.sound, fun _ => lawful⟩
  · have same : (s.evaluate z).zone y = s.zone y := State.applyDecision_zone_other _ _ own
    rw [same]
    exact ⟨(h y).1, fun later => (h y).2 (by simp [own, later])⟩

theorem zones_foldl_evaluate {l : List (Fin 24)} {s : State} (h : s.ZonesLawfulBut l) :
    (l.foldl State.evaluate s).ZonesLawful := by
  induction l generalizing s with
  | nil => exact zones_but_nil.mp h
  | cons z l ih => exact ih (zones_but_evaluate h)

theorem zones_setZone_evaluate {s : State} (h : s.ZonesLawful) {z : Fin 24} {r : Zone} (sound : r.Sound) :
    ((s.setZone z r).evaluate z).ZonesLawful := by
  refine zones_foldl_evaluate (l := [z]) fun y => ?_
  by_cases own : y = z
  · rw [own, State.setZone_zone_same]
    exact ⟨sound, fun outside => by simp at outside⟩
  · rw [State.setZone_zone_other _ _ own]
    exact ⟨(h y).sound, fun _ => h y⟩

theorem zones_evaluate {s : State} (h : s.ZonesLawful) (z : Fin 24) : (s.evaluate z).ZonesLawful :=
  zones_applyDecision h (Zone.evaluate_lawful (h z).sound _ _)

theorem zones_foldl_writeWetFlag (l : List (Fin 24)) {s : State} {k : List (Fin 24)} (within : l ⊆ k)
    (h : s.ZonesLawfulBut k) : (l.foldl State.writeWetFlag s).ZonesLawfulBut k := by
  induction l generalizing s with
  | nil => exact h
  | cons z l ih =>
    obtain ⟨here, later⟩ := List.cons_subset.mp within
    refine ih later fun y => ?_
    by_cases own : y = z
    · subst own
      have sound := (h y).1
      have written : (s.writeWetFlag y).zone y = { s.zone y with wet := s.wetFlag y } := State.setZone_zone_same _ _ _
      rw [written]
      exact ⟨⟨sound.dormant, sound.closed, sound.trend, sound.watched, sound.level, sound.active, sound.staged⟩,
        fun outside => absurd here outside⟩
    · have same : (s.writeWetFlag z).zone y = s.zone y := State.setZone_zone_other _ _ own
      rw [same]
      exact h y

theorem zones_recomputeFlags {s : State} (h : s.ZonesLawful) (zs : List (Fin 24)) : (s.recomputeFlags zs).ZonesLawful :=
  zones_foldl_evaluate (zones_foldl_writeWetFlag _ (List.Subset.refl _) fun z => ⟨(h z).sound, fun _ => h z⟩)

theorem zones_of_same {s t : State} (same : t.zones = s.zones) (h : s.ZonesLawful) : t.ZonesLawful := fun z => by
  simpa [State.zone, same] using h z

/-! ## Every row keeps the law -/

section Part

variable {s : State} (h : s.ZonesLawful)
include h

theorem zones_setProbes (t : List ProbeEntry) : (s.setProbes t).ZonesLawful := h

theorem zones_setWetInput (i : Fin 4) (r : WetInput) : (s.setWetInput i r).ZonesLawful := h

theorem zones_post (p : Posting) : (s.post p).ZonesLawful := h

theorem zones_afterConversion (v : Conversion) : (s.afterConversion v).ZonesLawful := h

theorem zones_push (z : Fin 24) (stamp : Stamp) (result : Option Int) : (s.push z stamp result).ZonesLawful := by
  unfold State.push
  split
  · next on => exact zones_setZone_evaluate h ((h z).push on _ _ _)
  · exact h

theorem zones_updateProbe (e f : ProbeEntry) : (s.updateProbe e f).ZonesLawful := by
  obtain ⟨_, same⟩ | ⟨_, evaluated⟩ := s.updateProbe_cases e f
  · rw [same]
    exact zones_setProbes h _
  · rw [evaluated]
    exact zones_evaluate (zones_setProbes h _) _

theorem zones_countDamage (e : ProbeEntry) : (s.countDamage e).ZonesLawful := by
  unfold State.countDamage
  split
  · exact h
  · split
    · exact zones_updateProbe h e _
    · exact zones_post (zones_updateProbe h e _) _

theorem zones_goodSample (e : ProbeEntry) (f : IntakeFrame) : (s.goodSample e f).ZonesLawful := by
  unfold State.goodSample
  split
  · unfold State.airSample
    dsimp only
    split
    · exact zones_push (zones_setProbes h _) _ _ _
    · split
      · exact zones_push (zones_afterConversion (zones_setProbes h _) _) _ _ _
      · exact zones_afterConversion (zones_setProbes h _) _
  · exact zones_updateProbe h e _

theorem zones_qualificationExpiry (i : Fin 4) : (s.qualificationExpiry i).ZonesLawful := by
  unfold State.qualificationExpiry
  dsimp only
  split
  · exact zones_post (zones_recomputeFlags (zones_setWetInput h i _) _) _
  · exact zones_recomputeFlags (zones_setWetInput h i _) _

theorem zones_restartZone (z : Fin 24) : (s.restartZone z).ZonesLawful := by
  unfold State.restartZone
  split
  · next on =>
    rw [Zone.restart_eq _ _ on]
    exact zones_applyDecision h (reawakened_lawful s.counter (h z).sound)
  · exact h

theorem zones_zonesRestarted : s.zonesRestarted.ZonesLawful := by
  have fresh : s.forgetReports.freshProbes.ZonesLawful := h
  have restarted : (allZones.foldl State.restartZone s.forgetReports.freshProbes).ZonesLawful :=
    foldl_keeps State.ZonesLawful (fun _ z hz => zones_restartZone hz z) _ _ fresh
  unfold State.zonesRestarted
  exact zones_of_same (State.refreshAlert_zones _) restarted

theorem zones_dropEntry (e : ProbeEntry) : (s.dropEntry e).ZonesLawful :=
  zones_evaluate (s := { s with
    probes := removeProbe e.load.address s.probes
    noticePending := s.noticePending.dropProbe e.load.address
    noticeArmed := s.noticeArmed.dropProbe e.load.address }) h _

end Part

/-- Zones as power-on gives them are lawful. -/
theorem zones_powerOn {s : State} (h : s.zones = Vector.replicate 24 Zone.powerOn) : s.ZonesLawful := fun z => by
  simp only [State.zone, h, Fin.getElem_fin, Vector.getElem_replicate]
  exact powerOn_lawful

theorem CommandEffect.zones {s t : State} (law : s.ZonesLawful) (h : CommandEffect s t) : t.ZonesLawful := by
  cases h with
  | restartEvaluation =>
    obtain ⟨o, e⟩ := restartEvaluation_outputs s
    have zones := zones_zonesRestarted law
    rw [e]
    exact zones
  | restartFull => exact zones_powerOn rfl
  | loadDisturbing p old => exact zones_evaluate (zones_setProbes law _) _
  | dropEntry a e => exact zones_dropEntry law e
  | setZone z a i l g => exact zones_setZone law ((law z).configure _ a i l g)
  | stageThresholds z t range => exact zones_setZone law ((law z).stage range)
  | enableZone z =>
    rw [Zone.enable_eq]
    exact zones_applyDecision law (reawakened_lawful s.counter (law z).sound)
  | disableZone z on =>
    rw [Zone.disable_eq _ ((law z).sound.awake on)]
    exact zones_applyDecision law (law z).sound.closed_lawful
  | clearWindow z => exact zones_setZone_evaluate law (law z).emptyWindow
  | setOutput i enabled zones band period fallback polarity =>
    obtain ⟨r, e⟩ := applyOutput_setOutput s i
      { s.output i with
        enabled := enabled, zones := zones, band := band, period := period, fallback := fallback, polarity := polarity }
    rw [e]
    exact law
  | setWetInput i => exact zones_recomputeFlags (zones_setWetInput law i _) _
  | _ => exact law

theorem zones_tableLaw : TableLaw State.ZonesLawful where
  tables _ := Iff.rfl
  verdictSent h _ := h
  postLine _ h := h
  silence h _ _ := zones_post (zones_updateProbe h _ _) _
  slot {_ z k} h _ := zones_setZone_evaluate h ((h z).expireSlot k)
  trend {_ z a} h armed _ := zones_setZone_evaluate h ((h z).trendStep armed a)
  persistence {_ z _} h armed _ := zones_applyDecision h ((h z).persistenceExpiry armed _)
  blind {_ z} h expired := zones_applyDecision h ((h z).blindExpiry (isSome_of_expired expired) _)
  qualification h _ := zones_qualificationExpiry h _
  boundary h _ _ := h
  duty h := h
  effect h effect := effect.zones h
  damage h _ := zones_countDamage h _
  sample h _ := zones_goodSample h _ _
  wetLevel {s i high} h := by
    unfold State.wetLevel
    split <;> exact h
  wetPin h := h

/-- Settles O55: the laws of the records are kept by every operation on the tables. -/
theorem zonesStayLawful : Obligations.ZonesStayLawful := by
  unfold Obligations.ZonesStayLawful
  intro s t law e
  have zones := zones_tableLaw.eventLaw
  exact zones.step (fun _ _ h => h) (zones.tick fun _ h => h) (fun _ _ _ _ => zones_powerOn rfl) law e

end Sys2Proof.Machine

/-! SUPPORT. The ALERT line says what it stands for after every step: O57. -/

namespace Sys2Proof.Machine

open Sys2Proof Slice0

/-! ## The line and the zones it stands for -/

/-- The ALERT line is true, and its set is one that SET ALERT accepts (R149, R150). -/
def State.AlertRight (s : State) : Prop := s.alert = s.alertNow ∧ alertSetInRange s.alertSet = true

/-- The line depends on which zones are enabled, on their states and on the alert set. -/
theorem alertNow_congr {s t : State}
    (zones : ∀ z, (t.zone z).enabled = (s.zone z).enabled ∧ (t.zone z).state = (s.zone z).state)
    (set : t.alertSet = s.alertSet) : t.alertNow = s.alertNow := by
  have each (z : Fin 24) : ((t.zone z).enabled && t.alertSet.getLsbD (t.zone z).state.code) =
      ((s.zone z).enabled && s.alertSet.getLsbD (s.zone z).state.code) := by
    rw [(zones z).1, (zones z).2, set]
  simp only [State.alertNow, each]

theorem alertNow_of_zones {s t : State} (zones : t.zones = s.zones) (set : t.alertSet = s.alertSet) :
    t.alertNow = s.alertNow :=
  alertNow_congr (fun z => by simp [State.zone, zones]) set

/-- With every zone disabled the line is not asserted. -/
theorem alertNow_of_disabled {s : State} (off : ∀ z, (s.zone z).enabled = false) : s.alertNow = false := by
  simp [State.alertNow, off]

theorem alert_of_same {s t : State} (zones : t.zones = s.zones) (set : t.alertSet = s.alertSet) (line : t.alert = s.alert)
    (h : s.AlertRight) : t.AlertRight := by
  obtain ⟨true_, range⟩ := h
  exact ⟨by rw [line, true_, alertNow_of_zones zones set], by rw [set]; exact range⟩

theorem alert_refreshed {s : State} (range : alertSetInRange s.alertSet = true) : s.refreshAlert.AlertRight :=
  ⟨(alertNow_of_zones (State.refreshAlert_zones s) (State.refreshAlert_alertSet s)).symm, range⟩

/-! ## What an evaluation does to the line -/

/-- A record written with the zone enabled as it was and in the state it had. -/
theorem alert_setZone {s : State} (h : s.AlertRight) {z : Fin 24} {r : Zone} (enabled : r.enabled = (s.zone z).enabled)
    (state : r.state = (s.zone z).state) : (s.setZone z r).AlertRight := by
  obtain ⟨line, range⟩ := h
  refine ⟨line.trans (alertNow_congr (s := s) (t := s.setZone z r) (fun y => ?_) rfl).symm, range⟩
  by_cases own : y = z
  · subst own
    simp [enabled, state]
  · simp [State.setZone_zone_other _ _ own]

/-- A decision re-evaluates the line with every change, and without one leaves what the line depends on. -/
theorem alert_applyDecision {s : State} (h : s.AlertRight) {z : Fin 24} {d : Decision}
    (still : d.changes = [] → d.zone.enabled = (s.zone z).enabled ∧ d.zone.state = (s.zone z).state) :
    (s.applyDecision z d).AlertRight := by
  by_cases none : d.changes = []
  · obtain ⟨zone, changes⟩ := d
    subst none
    rw [State.applyDecision_still]
    exact alert_setZone h (still rfl).1 (still rfl).2
  · refine ⟨?_, h.2⟩
    have line : (s.applyDecision z d).alert = (s.setZone z d.zone).alertNow := by simp [State.applyDecision, none]
    exact line.trans (alertNow_of_zones rfl rfl).symm

/-- An evaluation without a change leaves the state. -/
theorem Zone.evaluate_still {z : Zone} (sound : z.Sound) (now : Stamp) (x : Option Int)
    (still : (z.untouched.evaluate now x).changes = []) :
    (z.untouched.evaluate now x).zone.enabled = z.enabled ∧ (z.untouched.evaluate now x).zone.state = z.state := by
  cases on : z.enabled with
  | false =>
    rw [Zone.evaluate_disabled now x on]
    exact ⟨on, rfl⟩
  | true =>
    have awake := sound.awake on
    cases wet : z.wet with
    | true =>
      rw [Zone.evaluate_wet now x on wet] at still ⊢
      have condensing : z.state = .condensing := by
        by_contra other
        simp [other] at still
      exact ⟨on, condensing.symm⟩
    | false =>
      cases known : (z.readings x).m with
      | none =>
        rw [Zone.evaluate_unordered now x on wet known]
        exact ⟨on, rfl⟩
      | some m =>
        have projected : z.projected x = some (projectFrom m z.slope z.lookahead) := by simp [Zone.projected, known]
        rw [Zone.evaluate_ordered now x on wet awake known projected] at still ⊢
        have path := climb_toState (z.readings x) z.state _ ▸ congrArg (List.map Change.toState) still
        have last := wakingPath_getLast (z.staged.getD z.active) m (projectFrom m z.slope z.lookahead) awake
          (candidateOf_isLevel (z.staged.getD z.active) m (projectFrom m z.slope z.lookahead))
        rw [path] at last
        exact ⟨on, (Option.some.inj last).symm⟩

theorem alert_evaluate {s : State} (h : s.AlertRight) {z : Fin 24} (sound : (s.zone z).Sound) : (s.evaluate z).AlertRight :=
  alert_applyDecision h fun still => Zone.evaluate_still sound _ _ still

theorem alert_foldl_evaluate {l : List (Fin 24)} {s : State} (h : s.AlertRight) (law : s.ZonesLawfulBut l) :
    (l.foldl State.evaluate s).AlertRight := by
  induction l generalizing s with
  | nil => exact h
  | cons z l ih => exact ih (alert_evaluate h (law z).1) (zones_but_evaluate law)

theorem alert_setZone_evaluate {s : State} (h : s.AlertRight) {z : Fin 24} {r : Zone}
    (enabled : r.enabled = (s.zone z).enabled) (state : r.state = (s.zone z).state) (sound : r.Sound) :
    ((s.setZone z r).evaluate z).AlertRight :=
  alert_evaluate (alert_setZone h enabled state) (by rw [State.setZone_zone_same]; exact sound)

theorem alert_writeWetFlag {s : State} (h : s.AlertRight) (z : Fin 24) : (s.writeWetFlag z).AlertRight :=
  alert_setZone h rfl rfl

theorem alert_recomputeFlags {s : State} (h : s.AlertRight) (law : s.ZonesLawful) (zs : List (Fin 24)) :
    (s.recomputeFlags zs).AlertRight :=
  alert_foldl_evaluate (foldl_keeps State.AlertRight (fun _ z hz => alert_writeWetFlag hz z) _ s h)
    (zones_foldl_writeWetFlag _ (List.Subset.refl _) fun z => ⟨(law z).sound, fun _ => law z⟩)

/-! ## Every row keeps the law -/

section Part

variable {s : State} (h : s.AlertRight) (law : s.ZonesLawful)

section
include h

theorem alert_setProbes (t : List ProbeEntry) : (s.setProbes t).AlertRight := alert_of_same rfl rfl rfl h

theorem alert_setWetInput (i : Fin 4) (r : WetInput) : (s.setWetInput i r).AlertRight := alert_of_same rfl rfl rfl h

theorem alert_post (p : Posting) : (s.post p).AlertRight := alert_of_same rfl rfl rfl h

theorem alert_afterConversion (v : Conversion) : (s.afterConversion v).AlertRight := alert_of_same rfl rfl rfl h

end

include h law

theorem alert_push (z : Fin 24) (stamp : Stamp) (result : Option Int) : (s.push z stamp result).AlertRight := by
  unfold State.push
  split
  · next on => exact alert_setZone_evaluate h rfl rfl ((law z).push on _ _ _)
  · exact h

theorem alert_updateProbe (e f : ProbeEntry) : (s.updateProbe e f).AlertRight := by
  obtain ⟨_, same⟩ | ⟨_, evaluated⟩ := s.updateProbe_cases e f
  · rw [same]
    exact alert_setProbes h _
  · rw [evaluated]
    exact alert_evaluate (alert_setProbes h _) (law _).sound

theorem alert_countDamage (e : ProbeEntry) : (s.countDamage e).AlertRight := by
  unfold State.countDamage
  split
  · exact h
  · split
    · exact alert_updateProbe h law e _
    · exact alert_post (alert_updateProbe h law e _) _

theorem alert_goodSample (e : ProbeEntry) (f : IntakeFrame) : (s.goodSample e f).AlertRight := by
  unfold State.goodSample
  split
  · unfold State.airSample
    dsimp only
    split
    · exact alert_push (alert_setProbes h _) (zones_setProbes law _) _ _ _
    · split
      · exact alert_push (alert_afterConversion (alert_setProbes h _) _)
          (zones_afterConversion (zones_setProbes law _) _) _ _ _
      · exact alert_afterConversion (alert_setProbes h _) _
  · exact alert_updateProbe h law e _

theorem alert_qualificationExpiry (i : Fin 4) : (s.qualificationExpiry i).AlertRight := by
  unfold State.qualificationExpiry
  dsimp only
  split
  · exact alert_post (alert_recomputeFlags (alert_setWetInput h i _) (zones_setWetInput law i _) _) _
  · exact alert_recomputeFlags (alert_setWetInput h i _) (zones_setWetInput law i _) _

theorem alert_dropEntry (e : ProbeEntry) : (s.dropEntry e).AlertRight :=
  alert_evaluate (s := { s with
    probes := removeProbe e.load.address s.probes
    noticePending := s.noticePending.dropProbe e.load.address
    noticeArmed := s.noticeArmed.dropProbe e.load.address }) (alert_of_same rfl rfl rfl h) (law _).sound

end Part

theorem alert_zonesRestarted {s : State} (range : alertSetInRange s.alertSet = true) : s.zonesRestarted.AlertRight := by
  have set : s.zonesRestarted.alertSet = s.alertSet := (congrArg State.alertSet (besideZones_zonesRestarted s) :)
  rw [← set] at range
  unfold State.zonesRestarted at range ⊢
  rw [State.refreshAlert_alertSet] at range
  exact alert_refreshed range

/-- With the zones as power-on gives them and the line not asserted, the line is true. -/
theorem alert_powerOn {s : State} (zones : s.zones = Vector.replicate 24 Zone.powerOn) (line : s.alert = false)
    (set : s.alertSet = alertSetPowerOn) : s.AlertRight := by
  refine ⟨line.trans (alertNow_of_disabled fun z => ?_).symm, by rw [set]; decide⟩
  simp [State.zone, zones, Zone.powerOn]

theorem reawakening_still {now : Stamp} {x : Option Int} {z : Zone} (off : z.state ≠ .blind) :
    (z.reawakening now x).changes ≠ [] := by
  simp [Zone.reawakening, off]

theorem CommandEffect.alert {s t : State} (h : s.AlertRight) (law : s.ZonesLawful) (effect : CommandEffect s t) :
    t.AlertRight := by
  cases effect with
  | restartEvaluation =>
    obtain ⟨o, e⟩ := restartEvaluation_outputs s
    have zones := alert_zonesRestarted h.2
    rw [e]
    exact alert_of_same rfl rfl rfl zones
  | restartFull => exact alert_powerOn rfl rfl rfl
  | loadDisturbing p old => exact alert_evaluate (alert_setProbes h _) (law _).sound
  | dropEntry a e => exact alert_dropEntry h law e
  | setZone z a i l g =>
    rw [Zone.configure_eq]
    exact alert_setZone h rfl rfl
  | stageThresholds z t range => exact alert_setZone h rfl rfl
  | enableZone z off =>
    rw [Zone.enable_eq]
    have dormant : (s.zone z).state = .dormant := (law z).sound.dormant.mpr off
    exact alert_applyDecision h fun still => absurd still (reawakening_still (by simp [dormant]))
  | disableZone z on =>
    rw [Zone.disable_eq _ ((law z).sound.awake on)]
    exact alert_applyDecision h fun still => by simp at still
  | clearWindow z => exact alert_setZone_evaluate h rfl rfl (law z).emptyWindow
  | setOutput i enabled zones band period fallback polarity =>
    obtain ⟨r, e⟩ := applyOutput_setOutput s i
      { s.output i with
        enabled := enabled, zones := zones, band := band, period := period, fallback := fallback, polarity := polarity }
    rw [e]
    exact alert_of_same rfl rfl rfl h
  | setWetInput i => exact alert_recomputeFlags (alert_setWetInput h i _) (zones_setWetInput law i _) _
  | setAlert set range => exact alert_refreshed range
  | _ => exact alert_of_same rfl rfl rfl h

theorem alert_tableLaw : TableLaw fun s => s.AlertRight ∧ s.ZonesLawful where
  tables s := and_congr ⟨alert_of_same rfl rfl rfl, alert_of_same rfl rfl rfl⟩ Iff.rfl
  verdictSent h waiting := ⟨alert_of_same rfl rfl rfl h.1, zones_tableLaw.verdictSent h.2 waiting⟩
  postLine l h := ⟨alert_post h.1 _, zones_tableLaw.postLine l h.2⟩
  silence h present expired :=
    ⟨alert_post (alert_updateProbe h.1 h.2 _ _) _, zones_tableLaw.silence h.2 present expired⟩
  slot {_ z k} h expired := ⟨alert_setZone_evaluate h.1 rfl rfl ((h.2 z).expireSlot k), zones_tableLaw.slot h.2 expired⟩
  trend {_ z a} h armed expired :=
    ⟨alert_setZone_evaluate h.1 rfl rfl ((h.2 z).trendStep armed a), zones_tableLaw.trend h.2 armed expired⟩
  persistence {s z p} h armed expired := by
    refine ⟨alert_applyDecision h.1 fun still => ?_, zones_tableLaw.persistence h.2 armed expired⟩
    have watch : (s.zone z).state = .watch := (h.2 z).sound.watched (by simp [armed])
    cases c : p.candidate <;>
      simp [Zone.persistenceExpiry, Decision.disarmPersistence, Decision.move, Zone.untouched, watch, Raised.state, c]
        at still
  blind {s z} h expired := by
    refine ⟨alert_applyDecision h.1 fun still => ?_, zones_tableLaw.blind h.2 expired⟩
    have level := (h.2 z).sound.level (isSome_of_expired expired)
    have lit : (s.zone z).state ≠ .blind := fun blind => by simp [blind, ZoneState.isLevel] at level
    simp [Zone.blindExpiry, Decision.disarmPersistence, Decision.disarmBlind, Decision.move, Zone.untouched, lit] at still
  qualification h expired := ⟨alert_qualificationExpiry h.1 h.2 _, zones_tableLaw.qualification h.2 expired⟩
  boundary h armed expired := ⟨alert_of_same rfl rfl rfl h.1, zones_tableLaw.boundary h.2 armed expired⟩
  duty h := ⟨alert_of_same rfl rfl rfl h.1, zones_tableLaw.duty h.2⟩
  effect h effect := ⟨effect.alert h.1 h.2, effect.zones h.2⟩
  damage h present := ⟨alert_countDamage h.1 h.2 _, zones_tableLaw.damage h.2 present⟩
  sample h present := ⟨alert_goodSample h.1 h.2 _ _, zones_tableLaw.sample h.2 present⟩
  wetLevel {s i high} h := by
    refine ⟨?_, zones_tableLaw.wetLevel h.2⟩
    unfold State.wetLevel
    split
    · exact h.1
    · exact alert_setWetInput h.1 i _
  wetPin {_ i _} h := ⟨alert_setWetInput h.1 i _, zones_tableLaw.wetPin h.2⟩

/-- Settles O57: the line is re-evaluated by every state change, and what makes none leaves what it depends on. -/
theorem alertLineStaysTrue : Obligations.AlertLineStaysTrue := by
  unfold Obligations.AlertLineStaysTrue
  rintro s t ⟨line, range, _⟩ law e
  have rows := alert_tableLaw.eventLaw
  have ⟨alert, zones⟩ := rows.step (fun _ _ h => ⟨alert_of_same rfl rfl rfl h.1, h.2⟩)
    (rows.tick fun _ h => ⟨alert_of_same rfl rfl rfl h.1, h.2⟩)
    (fun _ _ _ _ => ⟨alert_powerOn rfl rfl rfl, zones_powerOn rfl⟩) ⟨⟨line, range⟩, law⟩ e
  exact ⟨alert.1, alert.2, fun z => (zones z).sound.dormant⟩

end Sys2Proof.Machine

/-! SUPPORT. Wet flags and demand outputs: O56. -/

namespace Sys2Proof.Machine

open Sys2Proof Slice0

/-! ## What no evaluation touches in a record -/

/-- A record with everything the risk steps and the take-up can move blanked. -/
def Zone.setting (z : Zone) : Zone :=
  { z with active := Thresholds.powerOn, staged := none, state := .dormant, persistence := none, blind := none }

section Setting

variable (d : Decision) (now : Stamp) (r : Readings)

theorem setting_move (next : ZoneState) (c : Cause) : (d.move next c r).zone.setting = d.zone.setting := by
  obtain ⟨_, e⟩ | ⟨_, e⟩ := d.move_cases next c r
  · rw [e]
  · rw [e]
    rfl

theorem setting_raise (c : ZoneState) : (d.raise now c r).zone.setting = d.zone.setting := by
  unfold Decision.raise
  split
  · exact setting_move d r _ _
  · exact setting_move d r _ _
  · exact setting_move d r _ _
  · rfl
  · rfl
  · exact setting_move d r _ _
  · rfl

theorem setting_stepDown (c : ZoneState) (m p : Int) : (d.stepDown c m p r).zone.setting = d.zone.setting := by
  unfold Decision.stepDown
  dsimp only
  split
  · split
    · split
      · exact setting_move d r _ _
      · rfl
    · split
      · exact setting_move d r _ _
      · rfl
    · split
      · exact setting_move d r _ _
      · rfl
    · rfl
  · rfl

theorem setting_lower (c : ZoneState) (m p : Int) : (d.lower c m p r).zone.setting = d.zone.setting := by
  unfold Decision.lower
  split
  · exact (setting_stepDown _ r c m p).trans ((setting_stepDown _ r c m p).trans (setting_stepDown _ r c m p))
  · rfl

theorem setting_ordered (m p : Int) : (d.ordered now m p r).zone.setting = d.zone.setting := by
  unfold Decision.ordered
  dsimp only
  refine (setting_lower _ r _ m p).trans ((setting_raise _ now r _).trans ?_)
  split
  · exact setting_move _ r _ _
  · rfl

theorem setting_riskSteps : (d.riskSteps now r).zone.setting = d.zone.setting := by
  unfold Decision.riskSteps
  split
  · exact setting_move _ r _ _
  · split
    · rfl
    · exact setting_ordered d now r _ _

theorem setting_evaluate (x : Option Int) : (d.evaluate now x).zone.setting = d.zone.setting := by
  unfold Decision.evaluate
  split
  · refine (setting_riskSteps _ now _).trans ?_
    dsimp only
    rw [Zone.takeUp_eq]
    rfl
  · rfl

end Setting

/-! ## The wet flags -/

/-- The wet inputs stand as they did, and every zone's flag too. -/
def SameWet (s t : State) : Prop := t.wetInputs = s.wetInputs ∧ ∀ z, (t.zone z).wet = (s.zone z).wet

theorem SameWet.refl (s : State) : SameWet s s := ⟨rfl, fun _ => rfl⟩

theorem SameWet.trans {s t u : State} (h : SameWet s t) (k : SameWet t u) : SameWet s u :=
  ⟨k.1.trans h.1, fun z => (k.2 z).trans (h.2 z)⟩

/-- Operations beside the zones and the wet inputs. -/
theorem SameWet.of_same {s t : State} (inputs : t.wetInputs = s.wetInputs) (zones : t.zones = s.zones) : SameWet s t :=
  ⟨inputs, fun z => by simp [State.zone, zones]⟩

theorem wetFlag_of_wetInputs {s t : State} (h : t.wetInputs = s.wetInputs) (z : Fin 24) : t.wetFlag z = s.wetFlag z := by
  simp only [State.wetFlag, h]

theorem SameWet.wetFlagsTrue {s t : State} (h : SameWet s t) (law : s.WetFlagsTrue) : t.WetFlagsTrue := by
  obtain ⟨inputs, flags⟩ := h
  obtain ⟨said, armed⟩ := law
  refine ⟨fun z => by rw [flags, said, wetFlag_of_wetInputs inputs], fun i => ?_⟩
  simpa only [State.wetInput, inputs] using armed i

theorem sameWet_applyDecision (s : State) (z : Fin 24) {d : Decision} (wet : d.zone.wet = (s.zone z).wet) :
    SameWet s (s.applyDecision z d) := by
  refine ⟨rfl, fun y => ?_⟩
  by_cases own : y = z
  · rw [own, State.applyDecision_zone_same, wet]
  · rw [State.applyDecision_zone_other _ _ own]

theorem sameWet_setZone (s : State) (z : Fin 24) {r : Zone} (wet : r.wet = (s.zone z).wet) : SameWet s (s.setZone z r) :=
  sameWet_applyDecision s z (d := { zone := r, changes := [] }) wet

theorem sameWet_evaluate (s : State) (z : Fin 24) : SameWet s (s.evaluate z) :=
  sameWet_applyDecision s z (congrArg Zone.wet (setting_evaluate (s.zone z).untouched s.counter (s.surfaceMin z)) :)

theorem sameWet_setZone_evaluate (s : State) (z : Fin 24) {r : Zone} (wet : r.wet = (s.zone z).wet) :
    SameWet s ((s.setZone z r).evaluate z) :=
  (sameWet_setZone s z wet).trans (sameWet_evaluate _ z)

theorem sameWet_foldl {α : Type} {f : State → α → State} (keep : ∀ s a, SameWet s (f s a)) (l : List α) (s : State) :
    SameWet s (l.foldl f s) :=
  foldl_keeps (SameWet s) (fun t a h => h.trans (keep t a)) l s (SameWet.refl s)

theorem sameWet_setProbes (s : State) (t : List ProbeEntry) : SameWet s (s.setProbes t) := .of_same rfl rfl

theorem sameWet_post (s : State) (p : Posting) : SameWet s (s.post p) := .of_same rfl rfl

theorem sameWet_afterConversion (s : State) (v : Conversion) : SameWet s (s.afterConversion v) := .of_same rfl rfl

theorem sameWet_push (s : State) (z : Fin 24) (stamp : Stamp) (result : Option Int) : SameWet s (s.push z stamp result) := by
  unfold State.push
  split
  · exact sameWet_setZone_evaluate s z rfl
  · exact .refl s

theorem sameWet_updateProbe (s : State) (e f : ProbeEntry) : SameWet s (s.updateProbe e f) := by
  obtain ⟨_, same⟩ | ⟨_, evaluated⟩ := s.updateProbe_cases e f
  · rw [same]
    exact sameWet_setProbes s _
  · rw [evaluated]
    exact (sameWet_setProbes s _).trans (sameWet_evaluate _ _)

theorem sameWet_silenceExpiry (s : State) (e : ProbeEntry) : SameWet s (s.silenceExpiry e) :=
  (sameWet_updateProbe s e _).trans (sameWet_post _ _)

theorem sameWet_countDamage (s : State) (e : ProbeEntry) : SameWet s (s.countDamage e) := by
  unfold State.countDamage
  split
  · exact .refl s
  · split
    · exact sameWet_updateProbe s e _
    · exact (sameWet_updateProbe s e _).trans (sameWet_post _ _)

theorem sameWet_goodSample (s : State) (e : ProbeEntry) (f : IntakeFrame) : SameWet s (s.goodSample e f) := by
  unfold State.goodSample
  split
  · unfold State.airSample
    dsimp only
    split
    · exact (sameWet_setProbes s _).trans (sameWet_push _ _ _ _)
    · have converted (v : Conversion) (t : List ProbeEntry) : SameWet s ((s.setProbes t).afterConversion v) :=
        (sameWet_setProbes s t).trans (sameWet_afterConversion _ v)
      split
      · exact (converted _ _).trans (sameWet_push _ _ _ _)
      · exact converted _ _
  · exact sameWet_updateProbe s e _

theorem sameWet_slotExpiry (s : State) (z : Fin 24) (k : Fin 8) : SameWet s (s.slotExpiry z k) :=
  sameWet_setZone_evaluate s z (r := (s.zone z).expireSlot k) rfl

theorem sameWet_trendExpiry (s : State) (z : Fin 24) (a : Arming) : SameWet s (s.trendExpiry z a) :=
  sameWet_setZone_evaluate s z (r := (s.zone z).trendStep a) rfl

theorem sameWet_persistenceExpiry (s : State) (z : Fin 24) (p : Persistence) :
    SameWet s (s.applyDecision z ((s.zone z).persistenceExpiry p (s.surfaceMin z))) :=
  sameWet_applyDecision s z (Decision.move_wet _ _ _ _)

theorem sameWet_blindExpiry (s : State) (z : Fin 24) : SameWet s (s.blindExpiry z) :=
  sameWet_applyDecision s z (Decision.move_wet _ _ _ _)

theorem sameWet_restartZone (s : State) (z : Fin 24) : SameWet s (s.restartZone z) := by
  unfold State.restartZone
  split
  · next on =>
    rw [Zone.restart_eq _ _ on]
    exact sameWet_applyDecision s z rfl
  · exact .refl s

theorem sameWet_zonesRestarted (s : State) : SameWet s s.zonesRestarted := by
  have fresh : SameWet s s.forgetReports.freshProbes := .of_same rfl rfl
  unfold State.zonesRestarted
  exact fresh.trans ((sameWet_foldl sameWet_restartZone _ _).trans
    (.of_same (State.refreshAlert_wetInputs _) (State.refreshAlert_zones _)))

/-- A zone's wet flag is the recomputed one where it is written, and stands elsewhere. -/
theorem foldl_writeWetFlag_wet (l : List (Fin 24)) (s : State) (z : Fin 24) :
    ((l.foldl State.writeWetFlag s).zone z).wet = if z ∈ l then s.wetFlag z else (s.zone z).wet := by
  induction l generalizing s with
  | nil => simp
  | cons y l ih =>
    rw [List.foldl_cons, ih, wetFlag_of_wetInputs (State.writeWetFlag_wetInputs s y)]
    by_cases own : z = y
    · subst own
      simp [State.writeWetFlag]
    · simp [own, State.writeWetFlag, State.setZone_zone_other]

/-- The flags of the listed zones say what R137 says, and the others stand. -/
theorem recomputeFlags_wet (s : State) (zs : List (Fin 24)) (z : Fin 24) :
    ((s.recomputeFlags zs).zone z).wet = if z ∈ zs then s.wetFlag z else (s.zone z).wet := by
  unfold State.recomputeFlags
  dsimp only
  rw [(sameWet_foldl sameWet_evaluate _ _).2 z, foldl_writeWetFlag_wet]
  by_cases listed : z ∈ zs
  · by_cases said : s.wetFlag z = (s.zone z).wet <;> simp [listed, said]
  · simp [listed]

theorem recomputeFlags_wetInputs (s : State) (zs : List (Fin 24)) : (s.recomputeFlags zs).wetInputs = s.wetInputs :=
  (congrArg State.wetInputs (besideZones_recomputeFlags s zs) :)

/-- The flag of a zone, input by input. -/
theorem wetFlag_iff (s : State) (z : Fin 24) :
    s.wetFlag z = true ↔ ∃ i, (s.wetInput i).zone = some z ∧ (s.wetInput i).state.taken = true := by
  simp only [State.wetFlag, List.any_eq_true, Vector.mem_toList_iff, Vector.mem_iff_getElem, State.wetInput,
    Fin.exists_iff, Bool.and_eq_true, beq_iff_eq, Fin.getElem_fin]
  constructor
  · rintro ⟨_, ⟨i, small, rfl⟩, wet⟩
    exact ⟨i, small, wet⟩
  · rintro ⟨i, small, wet⟩
    exact ⟨_, ⟨i, small, rfl⟩, wet⟩

/-- Writing one input moves the flags only of zones it names before or after, and only with its zone or taken state. -/
theorem wetFlag_setWetInput {s : State} {i : Fin 4} {r : WetInput} {z : Fin 24}
    (same : (r.zone = some z ∧ r.state.taken = true) ↔ ((s.wetInput i).zone = some z ∧ (s.wetInput i).state.taken = true)) :
    (s.setWetInput i r).wetFlag z = s.wetFlag z := by
  rw [Bool.eq_iff_iff, wetFlag_iff, wetFlag_iff]
  refine exists_congr fun j => ?_
  by_cases own : j = i
  · subst own
    rw [State.setWetInput_wetInput_same]
    exact same
  · rw [State.setWetInput_wetInput_other _ _ own]

/-- The flags are true after an input is written and the flags of the zones it moves are recomputed. -/
theorem wetFlagsTrue_setWetInput {s : State} (law : s.WetFlagsTrue) {i : Fin 4} {r : WetInput} {zs : List (Fin 24)}
    (armed : r.deadline.isSome = true ↔ r.state = .toWet ∨ r.state = .toDry)
    (others : ∀ z, z ∉ zs → ((r.zone = some z ∧ r.state.taken = true) ↔
      ((s.wetInput i).zone = some z ∧ (s.wetInput i).state.taken = true))) :
    ((s.setWetInput i r).recomputeFlags zs).WetFlagsTrue := by
  obtain ⟨said, wasArmed⟩ := law
  have inputs := recomputeFlags_wetInputs (s.setWetInput i r) zs
  refine ⟨fun z => ?_, fun j => ?_⟩
  · rw [recomputeFlags_wet, wetFlag_of_wetInputs inputs]
    by_cases listed : z ∈ zs
    · rw [if_pos listed]
    · rw [if_neg listed, wetFlag_setWetInput (others z listed)]
      exact said z
  · have same : ((s.setWetInput i r).recomputeFlags zs).wetInput j = (s.setWetInput i r).wetInput j := by
      simp only [State.wetInput, inputs]
    rw [same]
    by_cases own : j = i
    · subst own
      rw [State.setWetInput_wetInput_same]
      exact armed
    · rw [State.setWetInput_wetInput_other _ _ own]
      exact wasArmed j

theorem wetFlagsTrue_qualificationExpiry {s : State} (law : s.WetFlagsTrue) (i : Fin 4) :
    (s.qualificationExpiry i).WetFlagsTrue := by
  have taken : ((s.setWetInput i
      { s.wetInput i with
        state := if (s.wetInput i).state == .toWet then .wet else .dry, deadline := none
        capture := s.counter }).recomputeFlags (s.wetInput i).zone.toList).WetFlagsTrue := by
    refine wetFlagsTrue_setWetInput law ?_ fun z unlisted => ?_
    · dsimp only
      split <;> simp
    · have elsewhere : (s.wetInput i).zone ≠ some z := fun mapped => by simp [mapped] at unlisted
      simp [elsewhere]
  unfold State.qualificationExpiry
  dsimp only
  split
  · exact (sameWet_post _ _).wetFlagsTrue taken
  · exact taken

/-- A pin that changes level arms or disarms a qualification and leaves the taken state (R135). -/
theorem levelChange_keeps (now : Stamp) (high : Bool) (r : WetInput)
    (armed : r.deadline.isSome = true ↔ r.state = .toWet ∨ r.state = .toDry) :
    (r.levelChange now high).zone = r.zone ∧ (r.levelChange now high).state.taken = r.state.taken ∧
      ((r.levelChange now high).deadline.isSome = true ↔
        (r.levelChange now high).state = .toWet ∨ (r.levelChange now high).state = .toDry) := by
  unfold WetInput.levelChange
  by_cases wet : high = r.wetLevel
  · cases h : r.state with
    | dry | toWet | wet | toDry => simp_all [WetState.taken]
  · cases h : r.state with
    | dry | toWet | wet | toDry => simp_all [WetState.taken]

theorem configure_keeps (now : Stamp) (zone : Option (Fin 24)) (level : Bool) (qualify : Nat) (selection : Selection)
    (r : WetInput) (armed : r.deadline.isSome = true ↔ r.state = .toWet ∨ r.state = .toDry) :
    (r.configure now zone level qualify selection).deadline.isSome = true ↔
      (r.configure now zone level qualify selection).state = .toWet ∨
        (r.configure now zone level qualify selection).state = .toDry := by
  unfold WetInput.configure
  dsimp only
  split
  · exact armed
  · simp [WetInput.atOnce]
    split <;> simp

/-- A zone whose flag a SET WET INPUT does not recompute keeps it. -/
theorem affected_covers {old new : WetInput} {z : Fin 24} (spared : z ∉ old.affected new) :
    (new.zone = some z ∧ new.state.taken = true) ↔ (old.zone = some z ∧ old.state.taken = true) := by
  unfold WetInput.affected at spared
  split at spared
  · next same => rw [same.1, same.2]
  · simp [allZones] at spared
    simp [spared]

/-- Wet inputs as power-on leaves them, with the zones' flags clear. -/
theorem wetFlagsTrue_powerOn {s : State} {now : Stamp} {inputs : Vector WetInput 4}
    (wetInputs : s.wetInputs = inputs.map fun r => WetInput.powerOn r.pin now)
    (zones : s.zones = Vector.replicate 24 Zone.powerOn) : s.WetFlagsTrue := by
  have input (i : Fin 4) : s.wetInput i = WetInput.powerOn inputs[i].pin now := by simp [State.wetInput, wetInputs]
  refine ⟨fun z => ?_, fun i => ?_⟩
  · have flag : s.wetFlag z = false := by
      rw [Bool.eq_false_iff, Ne, wetFlag_iff]
      rintro ⟨i, mapped, _⟩
      simp [input, WetInput.powerOn] at mapped
    rw [flag]
    simp [State.zone, zones, Zone.powerOn]
  · rw [input]
    simp only [WetInput.powerOn]
    split <;> simp

theorem CommandEffect.wetFlagsTrue {s t : State} (law : s.WetFlagsTrue) (h : CommandEffect s t) : t.WetFlagsTrue := by
  cases h with
  | restartEvaluation =>
    obtain ⟨o, e⟩ := restartEvaluation_outputs s
    have zones := sameWet_zonesRestarted s
    rw [e]
    exact (zones.trans (.of_same rfl rfl)).wetFlagsTrue law
  | restartFull => exact wetFlagsTrue_powerOn rfl rfl
  | loadDisturbing p old => exact ((sameWet_setProbes s _).trans (sameWet_evaluate _ _)).wetFlagsTrue law
  | dropEntry a e =>
    refine (SameWet.trans (t := { s with
      probes := removeProbe e.load.address s.probes
      noticePending := s.noticePending.dropProbe e.load.address
      noticeArmed := s.noticeArmed.dropProbe e.load.address }) (.of_same rfl rfl) (sameWet_evaluate _ _)).wetFlagsTrue law
  | setZone z a i l g =>
    refine (sameWet_setZone s z ?_).wetFlagsTrue law
    rw [Zone.configure_eq]
  | stageThresholds z t range => exact (sameWet_setZone s z (r := { s.zone z with staged := some t }) rfl).wetFlagsTrue law
  | enableZone z off =>
    rw [Zone.enable_eq]
    exact (sameWet_applyDecision s z rfl).wetFlagsTrue law
  | disableZone z on => exact (sameWet_applyDecision s z (Decision.move_wet _ _ _ _)).wetFlagsTrue law
  | clearWindow z => exact (sameWet_setZone_evaluate s z (r := (s.zone z).emptyWindow) rfl).wetFlagsTrue law
  | setOutput i enabled zones band period fallback polarity =>
    obtain ⟨r, e⟩ := applyOutput_setOutput s i
      { s.output i with
        enabled := enabled, zones := zones, band := band, period := period, fallback := fallback, polarity := polarity }
    rw [e]
    exact law
  | setWetInput i =>
    exact wetFlagsTrue_setWetInput law (configure_keeps _ _ _ _ _ _ (law.2 i)) fun z spared => affected_covers spared
  | _ => exact law

theorem wetFlags_tableLaw : TableLaw State.WetFlagsTrue where
  tables _ := Iff.rfl
  verdictSent h _ := h
  postLine _ h := h
  silence h _ _ := (sameWet_silenceExpiry _ _).wetFlagsTrue h
  slot h _ := (sameWet_slotExpiry _ _ _).wetFlagsTrue h
  trend h _ _ := (sameWet_trendExpiry _ _ _).wetFlagsTrue h
  persistence h _ _ := (sameWet_persistenceExpiry _ _ _).wetFlagsTrue h
  blind h _ := (sameWet_blindExpiry _ _).wetFlagsTrue h
  qualification h _ := wetFlagsTrue_qualificationExpiry h _
  boundary h _ _ := h
  duty h := h
  effect h effect := effect.wetFlagsTrue h
  damage h _ := (sameWet_countDamage _ _).wetFlagsTrue h
  sample h _ := (sameWet_goodSample _ _ _).wetFlagsTrue h
  wetLevel {s i high} h := by
    unfold State.wetLevel
    split
    · exact h
    · obtain ⟨zone, taken, armed⟩ := levelChange_keeps s.counter high (s.wetInput i) (h.2 i)
      exact wetFlagsTrue_setWetInput (zs := []) h armed fun z _ => by rw [zone, taken]
  wetPin {s i high} h := wetFlagsTrue_setWetInput (zs := []) h (h.2 i) fun z _ => Iff.rfl

end Sys2Proof.Machine

/-! SUPPORT. The demand outputs are lawful and on time after every step: O56. -/

namespace Sys2Proof.Machine

open Sys2Proof Slice0

/-! ## One record -/

/-- The fields an output's commands write are in their ranges (R141). -/
def Output.InRange (o : Output) : Prop :=
  50 ≤ o.band ∧ o.band ≤ 3000 ∧ 10 ≤ o.period ∧ o.period ≤ 6000 ∧ o.fallback ≤ 6000 ∧ o.manual ≤ 6000

/-- An enabled output whose period is not over (R142). -/
def Output.Running (o : Output) (now : Stamp) : Prop := o.enabled = true → elapsed now o.start < o.periodInForce

theorem Output.Lawful.inRange {o : Output} (h : o.Lawful) : o.InRange := by
  obtain ⟨_, _, _, _, range⟩ := h
  exact range

theorem elapsed_self (now : Stamp) : elapsed now now = 0 := by simp [elapsed]

/-- A period begun at the counter (R142). -/
def Output.beginning (o : Output) (now : Stamp) (d : Nat × Basis × Option Int) : Output :=
  { o with
    periodInForce := o.period, start := now, dutyInForce := min d.1 o.period, basis := d.2.1, w := d.2.2
    boundary := some (armAt now o.period), driven := decide (0 < min d.1 o.period) }

section Beginning

variable {o : Output} (range : o.InRange) (on : o.enabled = true) (now : Stamp) (d : Nat × Basis × Option Int)
include range on

theorem beginning_lawful : (o.beginning now d).Lawful := by
  obtain ⟨band, bands, low, high, rest⟩ := range
  exact ⟨Nat.min_le_right _ _, by simp [Output.beginning, on], by simp [Output.beginning, on],
    fun _ => ⟨low, high⟩, band, bands, low, high, rest⟩

omit on in
theorem beginning_onTime : (o.beginning now d).OnTime now := by
  obtain ⟨_, _, _, high, _⟩ := range
  intro _
  refine ⟨by simp [Output.beginning, elapsed_self], ?_, ?_⟩
  · have whole : limited o.period = o.period := by simp only [limited, Config.longestDuration]; omega
    simp [Output.beginning, armAt, deadlineAt, whole]
  · intro active
    simp [Output.inDuty, Output.fullDuty, Output.beginning, elapsed_self] at active ⊢
    omega

omit on in
theorem beginning_running : (o.beginning now d).Running now := by
  obtain ⟨_, _, low, _⟩ := range
  intro _
  simp only [Output.beginning, elapsed_self]
  omega

end Beginning

theorem stopped_lawful {o : Output} (range : o.InRange) (off : o.enabled = false) : o.stopped.Lawful := by
  refine ⟨Nat.le_refl 0, ?_, fun _ => ⟨rfl, rfl, rfl, rfl⟩, ?_, range⟩ <;> simp [Output.stopped, off]

theorem onTime_of_disabled {o : Output} (off : o.enabled = false) (now : Stamp) : o.OnTime now := fun on => by
  simp [off] at on

theorem running_of_disabled {o : Output} (off : o.enabled = false) (now : Stamp) : o.Running now := fun on => by
  simp [off] at on

theorem powerOn_output_lawful (now : Stamp) : (Output.powerOn now).Lawful := by
  refine ⟨Nat.le_refl 0, ?_, fun _ => ⟨rfl, rfl, rfl, rfl⟩, ?_, ?_⟩ <;> simp [Output.powerOn]

/-- Within a period the counter reaches the boundary exactly at the period's end (R25, R142). -/
theorem reached_boundary {now start : Stamp} {p : Nat} (within : elapsed now start ≤ p) (small : p ≤ 6000) :
    reached now (start + BitVec.ofNat 24 p) = true ↔ elapsed now start = p := by
  unfold reached elapsed Config.halfTurn at *
  have := now.isLt
  have := start.isLt
  rw [BitVec.toNat_sub] at within
  rw [decide_eq_true_iff, BitVec.toNat_sub, BitVec.toNat_sub, BitVec.toNat_add, BitVec.toNat_ofNat]
  omega

theorem start_add_elapsed (now start : Stamp) : start + BitVec.ofNat 24 (elapsed now start) = now := by
  rw [elapsed, BitVec.ofNat_toNat, BitVec.setWidth_eq, BitVec.add_comm, BitVec.sub_add_cancel]

/-- A lawful output on time has reached its boundary exactly when its period is over. -/
theorem boundary_expired {o : Output} {now : Stamp} (law : o.Lawful) (onTime : o.OnTime now) (on : o.enabled = true) :
    deadlineExpired o.boundary now = true ↔ elapsed now o.start = o.periodInForce := by
  obtain ⟨within, boundary, _⟩ := onTime on
  obtain ⟨_, _, _, period, _⟩ := law
  rw [boundary, deadlineExpired_some, Arming.expired, Bool.false_or]
  exact reached_boundary within (period on).2

theorem running_of_ahead {o : Output} {now : Stamp} (law : o.Lawful) (onTime : o.OnTime now)
    (ahead : deadlineExpired o.boundary now = false) : o.Running now := by
  intro on
  have within := (onTime on).1
  have notEnded : ¬ elapsed now o.start = o.periodInForce := fun ended => by
    simp [(boundary_expired law onTime on).mpr ended] at ahead
  omega

/-- Ending a duty that is over. -/
theorem endDuty_lawful {o : Output} (law : o.Lawful) (now : Stamp) : (o.endDuty now).Lawful := by
  obtain ⟨duty, boundary, off, period, range⟩ := law
  obtain ⟨on, _, _, e⟩ | ⟨_, e⟩ := o.endDuty_cases now <;> rw [e]
  · exact ⟨duty, boundary, fun disabled => absurd disabled (by simp [on]), period, range⟩
  · exact ⟨duty, boundary, off, period, range⟩

theorem endDuty_onTime {o : Output} {now : Stamp} (onTime : o.OnTime now) : (o.endDuty now).OnTime now := by
  obtain ⟨_, _, ended, e⟩ | ⟨_, e⟩ := o.endDuty_cases now <;> rw [e]
  · intro on
    obtain ⟨within, boundary, _⟩ := onTime on
    refine ⟨within, boundary, fun active => ?_⟩
    have same : o.inDuty now = true := active
    simp [ended] at same
  · exact onTime

theorem endDuty_running {o : Output} {now : Stamp} (h : o.Running now) : (o.endDuty now).Running now := by
  obtain ⟨_, _, _, e⟩ | ⟨_, e⟩ := o.endDuty_cases now <;> (rw [e]; exact h)

/-- A count of a running period leaves it on time. -/
theorem onTime_count {o : Output} {now : Stamp} (law : o.Lawful) (onTime : o.OnTime now) (running : o.Running now) :
    o.OnTime (now + 1) := by
  intro on
  obtain ⟨_, boundary, driven⟩ := onTime on
  have before := running on
  obtain ⟨_, _, _, period, _⟩ := law
  have small := (period on).2
  have next : elapsed (now + 1) o.start = elapsed now o.start + 1 := by
    unfold elapsed at before ⊢
    have := now.isLt
    have := o.start.isLt
    rw [BitVec.toNat_sub] at before
    rw [BitVec.toNat_sub, BitVec.toNat_sub, BitVec.toNat_add, show (1 : Stamp).toNat = 1 from rfl]
    omega
  refine ⟨by omega, boundary, fun active => driven ?_⟩
  simp only [Output.inDuty, Bool.or_eq_true, decide_eq_true_eq, next] at active ⊢
  obtain early | full := active
  · exact .inl (by omega)
  · exact .inr full

/-! ## The outputs of the part -/

theorem State.setOutput_setOutput (s : State) (i : Fin 4) (o p : Output) :
    (s.setOutput i o).setOutput i p = s.setOutput i p := by simp [State.setOutput]

/-- An output written and begun at once is begun with what was written; the duty is formed on the zones (R145). -/
theorem begin_setOutput (s : State) (i : Fin 4) (o : Output) :
    (s.setOutput i o).periodBoundary i s.counter = s.setOutput i (o.beginning s.counter (s.duty o)) := by
  have stands : (s.setOutput i o).output i = o := State.setOutput_output_same s i o
  unfold State.periodBoundary
  dsimp only
  rw [stands, State.setOutput_setOutput]
  rfl

/-- The outputs are lawful and on time, and the periods of the listed ones are not over. -/
def State.OutputsTimely (l : List (Fin 4)) (s : State) : Prop :=
  s.OutputsLawful ∧ ∀ i ∈ l, (s.output i).Running s.counter

section Timely

variable {l : List (Fin 4)} {s t : State} (h : s.OutputsTimely l)

theorem timely_weaken {i : Fin 4} (k : s.OutputsTimely (i :: l)) : s.OutputsTimely l :=
  ⟨k.1, fun j listed => k.2 j (List.mem_cons_of_mem _ listed)⟩

theorem timely_nil : s.OutputsTimely [] ↔ s.OutputsLawful := by simp [State.OutputsTimely]

include h

theorem timely_of_same (outputs : t.outputs = s.outputs) (counter : t.counter = s.counter) : t.OutputsTimely l := by
  have each (i : Fin 4) : t.output i = s.output i := by simp only [State.output, outputs]
  obtain ⟨law, running⟩ := h
  exact ⟨fun i => by rw [each, counter]; exact law i, fun i listed => by rw [each, counter]; exact running i listed⟩

theorem timely_of_besideZones (same : t.besideZones = s.besideZones) : t.OutputsTimely l :=
  timely_of_same h (congrArg State.outputs same :) (congrArg State.counter same :)

theorem timely_setOutput {i : Fin 4} {r : Output} (law : r.Lawful) (onTime : r.OnTime s.counter)
    (running : i ∈ l → r.Running s.counter) : (s.setOutput i r).OutputsTimely l := by
  refine ⟨fun j => ?_, fun j listed => ?_⟩
  · by_cases own : j = i
    · subst own
      rw [State.setOutput_output_same]
      exact ⟨law, onTime⟩
    · rw [State.setOutput_output_other _ _ own]
      exact h.1 j
  · by_cases own : j = i
    · subst own
      rw [State.setOutput_output_same]
      exact running listed
    · rw [State.setOutput_output_other _ _ own]
      exact h.2 j listed

/-- A period begun at the counter is not over. -/
theorem timely_beginning {i : Fin 4} {o : Output} (range : o.InRange) (on : o.enabled = true)
    (d : Nat × Basis × Option Int) : (s.setOutput i (o.beginning s.counter d)).OutputsTimely (i :: l) := by
  have kept := timely_setOutput h (i := i) (beginning_lawful range on s.counter d) (beginning_onTime range s.counter d)
    fun _ => beginning_running range s.counter d
  refine ⟨kept.1, fun j listed => ?_⟩
  obtain rfl | later := List.mem_cons.mp listed
  · rw [State.setOutput_output_same]
    exact beginning_running range s.counter d
  · exact kept.2 j later

theorem timely_dutyEnd (i : Fin 4) : (s.dutyEnd i).OutputsTimely l :=
  timely_setOutput h (endDuty_lawful (h.1 i).1 _) (endDuty_onTime (h.1 i).2) fun listed => endDuty_running (h.2 i listed)

/-- The expiry of a boundary begins the next period at the counter (R142, R28). -/
theorem timely_boundary {i : Fin 4} {a : Arming} (armed : (s.output i).boundary = some a)
    (expired : a.expired s.counter = true) : (s.periodBoundary i a.time).OutputsTimely (i :: l) := by
  obtain ⟨law, onTime⟩ := h.1 i
  have on : (s.output i).enabled = true := by
    obtain ⟨_, boundary, _⟩ := law
    exact boundary.mp (by simp [armed])
  have ended := (boundary_expired law onTime on).mp (by rw [armed]; exact expired)
  have now : a.time = s.counter := by
    obtain ⟨_, boundary, _⟩ := onTime on
    rw [armed] at boundary
    rw [Option.some.inj boundary]
    exact ended ▸ start_add_elapsed s.counter (s.output i).start
  rw [now]
  exact timely_beginning h law.inRange on _

theorem timely_restartOutput (i : Fin 4) : (s.restartOutput i).OutputsTimely l := by
  unfold State.restartOutput
  split
  · next on => exact timely_weaken (timely_beginning h (h.1 i).1.inRange on _)
  · exact h

/-- SET OUTPUT begins a period with an enabling, ends it with a disabling, and otherwise lets it run (R145). -/
theorem timely_applyOutput (i : Fin 4) (enabled : Bool) (zones : BitVec 24) {band period fallback : Nat}
    (polarity : Polarity) (range : 50 ≤ band ∧ band ≤ 3000 ∧ 10 ≤ period ∧ period ≤ 6000 ∧ fallback ≤ 6000) :
    (s.applyOutput i
      { s.output i with
        enabled := enabled, zones := zones, band := band, period := period, fallback := fallback
        polarity := polarity }).OutputsTimely l := by
  obtain ⟨law, onTime⟩ := h.1 i
  have manual : (s.output i).manual ≤ 6000 := by
    obtain ⟨_, _, _, _, manual⟩ := law.inRange
    exact manual.2
  obtain ⟨band1, band2, period1, period2, fallback1⟩ := range
  obtain ⟨duty, boundary, off, inForce, _⟩ := law
  have running := fun listed => h.2 i listed
  cases was : (s.output i).enabled <;> cases enabled
  · simp only [State.applyOutput, was]
    exact timely_setOutput h ⟨duty, by simpa [was] using boundary, fun _ => off was, by simp, band1, band2, period1, period2,
      fallback1, manual⟩ (onTime_of_disabled rfl _) fun _ => running_of_disabled rfl _
  · simp only [State.applyOutput, was]
    rw [begin_setOutput]
    refine timely_weaken (i := i) (timely_beginning h ?_ rfl _)
    exact ⟨band1, band2, period1, period2, fallback1, manual⟩
  · simp only [State.applyOutput, was]
    exact timely_setOutput h (stopped_lawful ⟨band1, band2, period1, period2, fallback1, manual⟩ rfl)
      (onTime_of_disabled rfl _) fun _ => running_of_disabled rfl _
  · simp only [State.applyOutput, was]
    exact timely_setOutput h ⟨duty, by simpa [was] using boundary, by simp, fun _ => inForce was, band1, band2, period1,
      period2, fallback1, manual⟩ (fun _ => onTime was) fun listed _ => running listed was

end Timely

/-! ## Every row keeps the law -/

/-- Outputs as power-on leaves them. -/
theorem timely_powerOn {l : List (Fin 4)} {s : State} {now : Stamp}
    (outputs : s.outputs = Vector.replicate 4 (Output.powerOn now)) : s.OutputsTimely l := by
  have each (i : Fin 4) : s.output i = Output.powerOn now := by simp [State.output, outputs]
  exact ⟨fun i => by rw [each]; exact ⟨powerOn_output_lawful now, onTime_of_disabled rfl _⟩,
    fun i _ => by rw [each]; exact running_of_disabled rfl _⟩

theorem CommandEffect.timely {l : List (Fin 4)} {s t : State} (law : s.OutputsTimely l) (h : CommandEffect s t) :
    t.OutputsTimely l := by
  cases h with
  | restartEvaluation =>
    have zones : s.zonesRestarted.OutputsTimely l :=
      timely_of_besideZones (s := s.forgetReports.freshProbes) (timely_of_same law rfl rfl) (besideZones_zonesRestarted s)
    rw [restartEvaluation_eq]
    exact foldl_keeps (State.OutputsTimely l) (fun _ i h => timely_restartOutput h i) allUnits _ zones
  | restartFull => exact timely_powerOn rfl
  | loadDisturbing p old => exact timely_of_same law rfl rfl
  | dropEntry a e => exact timely_of_same law rfl rfl
  | enableZone z => exact timely_of_besideZones law (besideZones_applyDecision s z _)
  | disableZone z => exact timely_of_besideZones law (besideZones_applyDecision s z _)
  | clearWindow z => exact timely_of_same law rfl rfl
  | setOutput i enabled zones band period fallback polarity range =>
    exact timely_applyOutput law i enabled zones polarity range
  | setOutputMode i mode manual range =>
    obtain ⟨⟨duty, boundary, off, inForce, band1, band2, period1, period2, fallback, _⟩, onTime⟩ := law.1 i
    exact timely_setOutput law
      ⟨duty, boundary, off, inForce, band1, band2, period1, period2, fallback, range⟩ onTime fun listed => law.2 i listed
  | setWetInput i =>
    have inputs (r : WetInput) : (s.setWetInput i r).OutputsTimely l := timely_of_same law rfl rfl
    exact timely_of_besideZones (inputs _) (besideZones_recomputeFlags _ _)
  | _ => exact timely_of_same law rfl rfl

theorem timely_tableLaw (l : List (Fin 4)) : TableLaw (State.OutputsTimely l) where
  tables _ := ⟨fun h => timely_of_same h rfl rfl, fun h => timely_of_same h rfl rfl⟩
  verdictSent h _ := timely_of_same h rfl rfl
  postLine _ h := timely_of_same h rfl rfl
  silence {s _ e} h _ _ := timely_of_same h
    (congrArg State.outputs (besideZones_silenceExpiry s e) :) (congrArg State.counter (besideZones_silenceExpiry s e) :)
  slot h _ := timely_of_same h rfl rfl
  trend h _ _ := timely_of_same h rfl rfl
  persistence h _ _ := timely_of_same h rfl rfl
  blind h _ := timely_of_same h rfl rfl
  qualification {s i} h _ := by
    obtain same | same := besideZones_qualificationExpiry s i <;>
      exact timely_of_same h (congrArg State.outputs same :) (congrArg State.counter same :)
  boundary h armed expired := timely_weaken (timely_boundary h armed expired)
  duty h := timely_dutyEnd h _
  effect h effect := effect.timely h
  damage {s _ e} h _ := by
    obtain ⟨_, same⟩ | ⟨_, _, same⟩ | ⟨_, _, same⟩ := besideZones_countDamage s e <;>
      exact timely_of_same h (congrArg State.outputs same :) (congrArg State.counter same :)
  sample {s _ e f} h _ := by
    obtain ⟨_, same | ⟨_, _, same⟩⟩ | ⟨_, _, same⟩ := besideZones_goodSample s e f <;>
      exact timely_of_same h (congrArg State.outputs same :) (congrArg State.counter same :)
  wetLevel {s i high} h := by
    unfold State.wetLevel
    split
    · exact h
    · exact timely_of_same h rfl rfl
  wetPin h := timely_of_same h rfl rfl

/-! ## The end of a count -/

/-- A fold whose turns keep each goal reached and reach their own reaches all of them. -/
theorem foldl_reaches {α : Type} {P : State → Prop} {Q : α → State → Prop} {f : State → α → State}
    (keepP : ∀ s a, P s → P (f s a)) (keepQ : ∀ s a b, P s → Q b s → Q b (f s a)) (reach : ∀ s a, P s → Q a (f s a)) :
    ∀ (l : List α) (s : State), P s → P (l.foldl f s) ∧ ∀ b, (b ∈ l ∨ Q b s) → Q b (l.foldl f s)
  | [], s, h => ⟨h, fun b reached => reached.resolve_left List.not_mem_nil⟩
  | a :: l, s, h => by
    obtain ⟨kept, rest⟩ := foldl_reaches keepP keepQ reach l (f s a) (keepP s a h)
    refine ⟨kept, fun b reached => rest b ?_⟩
    obtain listed | before := reached
    · obtain rfl | later := List.mem_cons.mp listed
      · exact .inr (reach s _ h)
      · exact .inl later
    · exact .inr (keepQ s a b h before)

/-- The end of a count up to its outputs: inputs, probes and zones have been taken (R27). -/
def State.reachedBeforeOutputs (s : State) : State :=
  let qualified := allUnits.foldl
    (fun t i => t.takeIfReached (fun u => (u.wetInput i).deadline) (State.takeQualification i)) s
  allZones.foldl State.takeReachedZone
    ((qualified.probes.map fun e => e.load.address).foldl
      (fun t a => t.takeIfReached (fun u => u.silenceDeadline a) (State.takeSilence a)) qualified)

/-- The turn of one output at the end of a count (R27, R144). -/
def State.outputTurn (s : State) (i : Fin 4) : State :=
  (s.takeIfReached (fun u => (u.output i).boundary) (State.takeBoundary i)).dutyEnd i

theorem takeReached_eq (s : State) : s.takeReached = allUnits.foldl State.outputTurn s.reachedBeforeOutputs := rfl

theorem CountLaw.reachedBeforeOutputs {P : State → Prop} (law : CountLaw P) {s : State} (h : P s) :
    P s.reachedBeforeOutputs :=
  foldl_keeps P law.takeReachedZone _ _ (foldl_keeps P (fun t _ => law.takeIfReached (fun _ => law.silence) t) _ _
    (foldl_keeps P (fun t _ => law.takeIfReached (fun _ => law.qualification) t) _ s h))

/-- The turn of an output at the end of a count leaves its period running. -/
theorem timely_boundaryTurn {l : List (Fin 4)} {s : State} (h : s.OutputsTimely l) (i : Fin 4) :
    (s.outputTurn i).OutputsTimely (i :: l) := by
  unfold State.outputTurn
  refine timely_dutyEnd ?_ i
  obtain ⟨reached, e⟩ | ⟨ahead, e⟩ := s.takeIfReached_cases (fun u => (u.output i).boundary) (State.takeBoundary i) <;> rw [e]
  · refine (timely_tableLaw (i :: l)).eventLaw.toSettleLaw.settle _ ?_
    obtain ⟨a, armed⟩ := Option.isSome_iff_exists.mp (isSome_of_expired reached)
    rw [armed] at reached
    simp only [State.takeBoundary, armed]
    exact timely_boundary h armed reached
  · refine ⟨h.1, fun j listed => ?_⟩
    obtain rfl | later := List.mem_cons.mp listed
    · exact running_of_ahead (h.1 j).1 (h.1 j).2 ahead
    · exact h.2 j later

/-- After the expiries of a count no period is over. -/
theorem running_takeReached {s : State} (h : s.OutputsLawful) : s.takeReached.OutputsTimely allUnits := by
  have before := (timely_tableLaw []).eventLaw.toCountLaw.reachedBeforeOutputs (timely_nil.mpr h)
  have turns := foldl_reaches (P := State.OutputsTimely []) (Q := fun i => State.OutputsTimely [i])
    (fun t i ht => timely_weaken (timely_boundaryTurn ht i))
    (fun t i j _ hj => timely_weaken (timely_boundaryTurn hj i)) (fun t i ht => timely_boundaryTurn ht i) allUnits _ before
  rw [takeReached_eq]
  exact ⟨turns.1.1, fun i listed => (turns.2 i (.inl listed)).2 i (List.mem_singleton.mpr rfl)⟩

theorem running_finishCount {s : State} (h : s.OutputsLawful) : s.finishCount.OutputsTimely allUnits := by
  unfold State.finishCount
  split
  · next quiet =>
    refine ⟨h, fun i _ => ?_⟩
    simp only [State.nothingReached, Bool.and_eq_true, List.all_eq_true] at quiet
    obtain ⟨_, outputs⟩ := quiet
    obtain ⟨ahead, _⟩ := outputs (s.output i) (by simp [State.output])
    exact running_of_ahead (h i).1 (h i).2 (by simpa using ahead)
  · exact running_takeReached h

theorem wetFlagsTrue_step {s t : State} (law : s.WetFlagsTrue) (e : step s = .next t) : t.WetFlagsTrue := by
  have rows := wetFlags_tableLaw.eventLaw
  exact rows.step (fun _ _ h => h) (rows.tick fun _ h => h)
    (fun s _ _ _ => wetFlagsTrue_powerOn (inputs := s.wetInputs) rfl rfl) law e

theorem outputsLawful_step {s t : State} (law : s.OutputsLawful) (e : step s = .next t) : t.OutputsLawful := by
  have rows := (timely_tableLaw []).eventLaw
  refine timely_nil.mp (rows.step (fun _ _ h => timely_of_same h rfl rfl) (fun u hu => ?_)
    (fun _ _ _ _ => timely_powerOn rfl) (timely_nil.mpr law) e)
  have counted := running_finishCount (timely_nil.mp hu)
  refine timely_nil.mpr fun i => ⟨(counted.1 i).1, ?_⟩
  exact onTime_count (counted.1 i).1 (counted.1 i).2 (counted.2 i (List.mem_finRange i))

/-- Settles O56: the flags are recomputed with every change of an input, and a count ends with the boundaries it reached. -/
theorem discreteUnitsStayLawful : Obligations.DiscreteUnitsStayLawful := by
  unfold Obligations.DiscreteUnitsStayLawful
  rintro s t ⟨flags, outputs⟩ e
  exact ⟨wetFlagsTrue_step flags e, outputsLawful_step outputs e⟩

end Sys2Proof.Machine

/-! SUPPORT. A part held in reset: O3. -/

namespace Sys2Proof.Machine

open Sys2Proof

/-- Only the levels of the input lines have moved (R177). -/
def LevelsMoved (s t : State) : Prop :=
  t =
    { s with
      fieldRx := { s.fieldRx with strobe := t.fieldRx.strobe }
      stationRx := { s.stationRx with strobe := t.stationRx.strobe }
      fieldTx := { s.fieldTx with ack := t.fieldTx.ack }
      stationTx := { s.stationTx with ack := t.stationTx.ack }
      wetInputs := t.wetInputs } ∧
    ∀ i, t.wetInput i = { s.wetInput i with pin := (t.wetInput i).pin }

theorem LevelsMoved.refl (s : State) : LevelsMoved s s := ⟨rfl, fun _ => rfl⟩

theorem levelsMoved_wetPin (s : State) (i : Fin 4) (high : Bool) : LevelsMoved s (State.wetPin i high s) := by
  refine ⟨rfl, fun j => ?_⟩
  unfold State.wetPin
  by_cases own : j = i
  · subst own
    rw [State.setWetInput_wetInput_same]
  · rw [State.setWetInput_wetInput_other _ _ own]

/-- Held in reset the part takes no event; the rows of the input lines move their level (R177). -/
theorem exec_held {c : Instr} {s : State} (low : s.resetLow = true) (field : s.fieldRx.ack = false)
    (station : s.stationRx.ack = false) (power : ∀ a, c ≠ .powerOn a) (release : ∀ a, c ≠ .pinResetRelease a) :
    ∃ t, exec c s = .next t ∧ LevelsMoved s t := by
  have still (take : State → State) : ∃ t, event s take = .next t ∧ LevelsMoved s t :=
    ⟨s, event_held low take, .refl s⟩
  have line {held : State → State} (take : State → State) (moved : LevelsMoved s (held s)) :
      ∃ t, pinEvent s held take = .next t ∧ LevelsMoved s t := ⟨held s, pinEvent_held low held take, moved⟩
  cases c with
  | powerOn a => exact absurd rfl (power a)
  | pinResetRelease a => exact absurd rfl (release a)
  | pinReset => exact ⟨s, by simp [exec, execPinReset, low], .refl s⟩
  | slotExpiry z k => exact ⟨s, by simp [exec, execSlotExpiry, low, expiryEvent_held], .refl s⟩
  | fieldReceiveStrobeFall =>
    refine line (held := State.fieldStrobeFall) _ ⟨?_, fun _ => rfl⟩
    simp [State.fieldStrobeFall, Receiver.fall, field]
  | stationReceiveStrobeFall =>
    refine line (held := State.stationStrobeFall) _ ⟨?_, fun _ => rfl⟩
    simp [State.stationStrobeFall, Receiver.fall, station]
  | fieldSymbolArrival w => exact line (held := fun t => { t with fieldRx := t.fieldRx.rise }) _ ⟨rfl, fun _ => rfl⟩
  | stationSymbolArrival w =>
    exact line (held := fun t => { t with stationRx := t.stationRx.rise }) _ ⟨rfl, fun _ => rfl⟩
  | fieldSymbolAcknowledged =>
    exact line (held := fun t => { t with fieldTx := { t.fieldTx with ack := true } }) _ ⟨rfl, fun _ => rfl⟩
  | stationSymbolAcknowledged =>
    exact line (held := fun t => { t with stationTx := { t.stationTx with ack := true } }) _ ⟨rfl, fun _ => rfl⟩
  | fieldTransmitAckFall =>
    exact line (held := fun t => { t with fieldTx := { t.fieldTx with ack := false } }) _ ⟨rfl, fun _ => rfl⟩
  | stationTransmitAckFall =>
    exact line (held := fun t => { t with stationTx := { t.stationTx with ack := false } }) _ ⟨rfl, fun _ => rfl⟩
  | classifierTakeHead => exact still fun t => t.takeHead.arbitrate
  | dutyEnd i => exact still fun t => t.dutyEnd i
  | wetLevelChange i high => exact line _ (levelsMoved_wetPin s i high)
  | _ => exact still _

/-- Settles O3: every row but the resets' meets a held part through `event` or `pinEvent`. -/
theorem heldPartTakesNoEvent : Obligations.HeldPartTakesNoEvent := by
  unfold Obligations.HeldPartTakesNoEvent
  exact fun c s low field station power release => exec_held low field station power release

end Sys2Proof.Machine

/-! SUPPORT. The queues stay within their places and no zone has two verdict entries: O52. -/

namespace Sys2Proof.Machine

open Sys2Proof

/-! ## One verdict entry for each zone (R156) -/

theorem queueVerdict_nodup {q : List Verdict} (h : (q.map Verdict.zone).Nodup) (z : Fin 24) (now : Stamp) (c : Change) :
    ((queueVerdict z now q c).map Verdict.zone).Nodup := by
  unfold queueVerdict
  split
  · have same : (q.map fun v =>
        if v.zone == z then { v with toState := c.toState, cause := c.cause, readings := c.readings, stamp := now } else v).map
          Verdict.zone = q.map Verdict.zone := by
      rw [List.map_map]
      refine List.map_congr_left fun v _ => ?_
      simp only [Function.comp]
      split <;> rfl
    rw [same]
    exact h
  · next absent =>
    rw [List.map_append]
    refine List.Nodup.append h (List.nodup_singleton _) ?_
    simpa [List.any_eq_true] using absent

theorem foldl_queueVerdict_nodup (z : Fin 24) (now : Stamp) (l : List Change) {q : List Verdict}
    (h : (q.map Verdict.zone).Nodup) : ((l.foldl (queueVerdict z now) q).map Verdict.zone).Nodup := by
  induction l generalizing q with
  | nil => exact h
  | cons c l ih => exact ih (queueVerdict_nodup h z now c)

section Verdicts

variable {s : State} (h : s.OneVerdictPerZone)
include h

theorem verdicts_applyDecision (z : Fin 24) (d : Decision) : (s.applyDecision z d).OneVerdictPerZone :=
  foldl_queueVerdict_nodup z s.counter d.changes h

theorem verdicts_evaluate (z : Fin 24) : (s.evaluate z).OneVerdictPerZone := verdicts_applyDecision h z _

theorem verdicts_setZone (z : Fin 24) (r : Zone) : (s.setZone z r).OneVerdictPerZone := h

theorem verdicts_setProbes (t : List ProbeEntry) : (s.setProbes t).OneVerdictPerZone := h

theorem verdicts_setWetInput (i : Fin 4) (r : WetInput) : (s.setWetInput i r).OneVerdictPerZone := h

theorem verdicts_post (p : Posting) : (s.post p).OneVerdictPerZone := h

theorem verdicts_afterConversion (v : Conversion) : (s.afterConversion v).OneVerdictPerZone := h

theorem verdicts_writeWetFlag (z : Fin 24) : (s.writeWetFlag z).OneVerdictPerZone := h

theorem verdicts_refreshAlert : s.refreshAlert.OneVerdictPerZone := h

theorem verdicts_recomputeFlags (zs : List (Fin 24)) : (s.recomputeFlags zs).OneVerdictPerZone :=
  foldl_keeps State.OneVerdictPerZone (fun _ z hz => verdicts_evaluate hz z) _ _
    (foldl_keeps State.OneVerdictPerZone (fun _ z hz => verdicts_writeWetFlag hz z) _ s h)

theorem verdicts_push (z : Fin 24) (stamp : Stamp) (result : Option Int) : (s.push z stamp result).OneVerdictPerZone := by
  unfold State.push
  split
  · exact verdicts_evaluate (verdicts_setZone h z _) z
  · exact h

theorem verdicts_updateProbe (e f : ProbeEntry) : (s.updateProbe e f).OneVerdictPerZone := by
  obtain ⟨_, same⟩ | ⟨_, evaluated⟩ := s.updateProbe_cases e f
  · rw [same]
    exact verdicts_setProbes h _
  · rw [evaluated]
    exact verdicts_evaluate (verdicts_setProbes h _) _

theorem verdicts_countDamage (e : ProbeEntry) : (s.countDamage e).OneVerdictPerZone := by
  unfold State.countDamage
  split
  · exact h
  · split
    · exact verdicts_updateProbe h e _
    · exact verdicts_post (verdicts_updateProbe h e _) _

theorem verdicts_goodSample (e : ProbeEntry) (f : IntakeFrame) : (s.goodSample e f).OneVerdictPerZone := by
  unfold State.goodSample
  split
  · unfold State.airSample
    dsimp only
    split
    · exact verdicts_push (verdicts_setProbes h _) _ _ _
    · split
      · exact verdicts_push (verdicts_afterConversion (verdicts_setProbes h _) _) _ _ _
      · exact verdicts_afterConversion (verdicts_setProbes h _) _
  · exact verdicts_updateProbe h e _

theorem verdicts_qualificationExpiry (i : Fin 4) : (s.qualificationExpiry i).OneVerdictPerZone := by
  unfold State.qualificationExpiry
  dsimp only
  split
  · exact verdicts_post (verdicts_recomputeFlags (verdicts_setWetInput h i _) _) _
  · exact verdicts_recomputeFlags (verdicts_setWetInput h i _) _

theorem verdicts_restartZone (z : Fin 24) : (s.restartZone z).OneVerdictPerZone := by
  unfold State.restartZone
  split
  · exact verdicts_applyDecision h z _
  · exact h

theorem verdicts_dropEntry (e : ProbeEntry) : (s.dropEntry e).OneVerdictPerZone :=
  verdicts_evaluate (s := { s with
    probes := removeProbe e.load.address s.probes
    noticePending := s.noticePending.dropProbe e.load.address
    noticeArmed := s.noticeArmed.dropProbe e.load.address }) h _

end Verdicts

theorem verdicts_none {s : State} (h : s.verdicts = []) : s.OneVerdictPerZone := by
  simp [State.OneVerdictPerZone, h]

theorem verdicts_zonesRestarted (s : State) : s.zonesRestarted.OneVerdictPerZone := by
  have forgotten : s.forgetReports.freshProbes.OneVerdictPerZone := verdicts_none rfl
  unfold State.zonesRestarted
  exact verdicts_refreshAlert (foldl_keeps State.OneVerdictPerZone (fun _ z hz => verdicts_restartZone hz z) _ _ forgotten)

theorem CommandEffect.oneVerdict {s t : State} (law : s.OneVerdictPerZone) (h : CommandEffect s t) :
    t.OneVerdictPerZone := by
  cases h with
  | restartEvaluation =>
    obtain ⟨o, e⟩ := restartEvaluation_outputs s
    have zones := verdicts_zonesRestarted s
    rw [e]
    exact zones
  | restartFull => exact verdicts_none rfl
  | loadDisturbing p old => exact verdicts_evaluate (verdicts_setProbes law _) _
  | dropEntry a e => exact verdicts_dropEntry law e
  | enableZone z => exact verdicts_applyDecision law z _
  | disableZone z => exact verdicts_applyDecision law z _
  | clearWindow z => exact verdicts_evaluate (verdicts_setZone law z _) z
  | setOutput i enabled zones band period fallback polarity =>
    obtain ⟨r, e⟩ := applyOutput_setOutput s i
      { s.output i with
        enabled := enabled, zones := zones, band := band, period := period, fallback := fallback, polarity := polarity }
    rw [e]
    exact law
  | setWetInput i => exact verdicts_recomputeFlags (verdicts_setWetInput law i _) _
  | _ => exact law

theorem verdicts_tableLaw : TableLaw State.OneVerdictPerZone where
  tables _ := Iff.rfl
  verdictSent {s v rest} h waiting := by
    have all : (s.verdicts.map Verdict.zone).Nodup := h
    rw [waiting, List.map_cons] at all
    exact (List.nodup_cons.mp all).2
  postLine l h := verdicts_post h (.line l)
  silence h _ _ := verdicts_post (verdicts_updateProbe h _ _) _
  slot {_ z _} h _ := verdicts_evaluate (verdicts_setZone h z _) z
  trend {_ z _} h _ _ := verdicts_evaluate (verdicts_setZone h z _) z
  persistence h _ _ := verdicts_applyDecision h _ _
  blind h _ := verdicts_applyDecision h _ _
  qualification h _ := verdicts_qualificationExpiry h _
  boundary h _ _ := h
  duty h := h
  effect h effect := effect.oneVerdict h
  damage h _ := verdicts_countDamage h _
  sample h _ := verdicts_goodSample h _ _
  wetLevel {s i high} h := by
    unfold State.wetLevel
    split <;> exact h
  wetPin h := h

/-! ## The line side -/

/-- The part with everything blanked but its lines: queues, assemblers, receive and transmit pairs, response slot. -/
def State.lineSide (s : State) : State :=
  { State.reset with
    resetLow := s.resetLow, ownAddress := s.ownAddress, fieldRx := s.fieldRx, fieldAsm := s.fieldAsm, intake := s.intake
    fieldOut := s.fieldOut, fieldTx := s.fieldTx, stationRx := s.stationRx, stationAsm := s.stationAsm, forward := s.forward
    response := s.response, stationTx := s.stationTx, verdictRun := s.verdictRun }

theorem lineSide_of_besideZones {s t : State} (h : t.besideZones = s.besideZones) : t.lineSide = s.lineSide :=
  (congrArg State.lineSide h :)

theorem lineSide_countDamage (s : State) (e : ProbeEntry) : (s.countDamage e).lineSide = s.lineSide := by
  obtain ⟨_, same⟩ | ⟨_, _, same⟩ | ⟨_, _, same⟩ := besideZones_countDamage s e <;>
    exact (lineSide_of_besideZones same).trans rfl

theorem lineSide_goodSample (s : State) (e : ProbeEntry) (f : IntakeFrame) : (s.goodSample e f).lineSide = s.lineSide := by
  obtain ⟨_, same | ⟨_, _, same⟩⟩ | ⟨_, _, same⟩ := besideZones_goodSample s e f <;>
    exact (lineSide_of_besideZones same).trans rfl

theorem lineSide_treat (s : State) (f : IntakeFrame) (t : Treatment) : (s.treat f t).lineSide = s.lineSide := by
  cases t with
  | sample e => exact lineSide_goodSample s e f
  | wrongLength e => exact lineSide_countDamage s e
  | plain => rfl

theorem lineSide_qualificationExpiry (s : State) (i : Fin 4) : (s.qualificationExpiry i).lineSide = s.lineSide := by
  obtain same | same := besideZones_qualificationExpiry s i <;> exact (lineSide_of_besideZones same).trans rfl

/-- RESTART FULL alone reaches the lines. -/
theorem CommandEffect.lineSide {s t : State} (h : CommandEffect s t) : t.lineSide = s.lineSide ∨ t = s.restartFull := by
  cases h with
  | restartFull => exact .inr rfl
  | restartEvaluation =>
    obtain ⟨o, e⟩ := restartEvaluation_outputs s
    have same : s.zonesRestarted.lineSide = s.lineSide := (lineSide_of_besideZones (besideZones_zonesRestarted s)).trans rfl
    rw [e]
    exact .inl same
  | setOutput i enabled zones band period fallback polarity =>
    obtain ⟨r, e⟩ := applyOutput_setOutput s i
      { s.output i with
        enabled := enabled, zones := zones, band := band, period := period, fallback := fallback, polarity := polarity }
    rw [e]
    exact .inl rfl
  | setWetInput i => exact .inl ((lineSide_of_besideZones (besideZones_recomputeFlags _ _)).trans rfl)
  | _ => exact .inl rfl

/-- A law of the lines: what an operation on the tables leaves of it (`Weak`), the arbiter's choice makes whole (`Full`). -/
structure LineLaw (Weak Full : State → Prop) : Prop where
  weaken : ∀ {s}, Full s → Weak s
  side : ∀ {s t : State}, Weak s → t.lineSide = s.lineSide → Weak t
  still : ∀ {s t : State}, Full s → t.lineSide = s.lineSide → t.verdicts = s.verdicts → Full t
  arbitrate : ∀ {s}, Weak s → Full s.arbitrate

theorem LineLaw.countLaw {Weak Full : State → Prop} (law : LineLaw Weak Full) : CountLaw Full where
  silence {s a} h _ := by
    unfold State.takeSilence
    split
    · exact h
    · exact law.arbitrate (law.side (law.weaken h) ((lineSide_of_besideZones (besideZones_silenceExpiry s _)).trans rfl))
  slot h _ := law.arbitrate (law.side (law.weaken h) rfl)
  persistence {s z} h _ := by
    unfold State.takePersistence State.persistenceExpiry
    split
    · exact law.arbitrate (law.weaken h)
    · exact law.arbitrate (law.side (law.weaken h) rfl)
  blind h _ := law.arbitrate (law.side (law.weaken h) rfl)
  qualification h _ := law.arbitrate (law.side (law.weaken h) (lineSide_qualificationExpiry _ _))
  trend {s z} h _ := by
    unfold State.takeTrend
    split
    · exact h
    · exact law.arbitrate (law.side (law.weaken h) rfl)
  boundary {s i} h _ := by
    unfold State.takeBoundary
    split
    · exact h
    · exact law.still h rfl rfl
  duty h := law.still h rfl rfl

end Sys2Proof.Machine

/-! SUPPORT. The rows of the lines keep the queues within their places: O52. -/

namespace Sys2Proof.Machine

open Sys2Proof

/-! ## The receive assembler -/

/-- An arrival that leaves the assembler holding no frame. -/
def Arrival.Free : Arrival → Prop
  | .quiet a => a.holding = false
  | .faulty _ a => a.holding = false
  | .complete _ => True

theorem continueFrame_free (keep : Bool) (r : FrameRecord) (w : Symbol) : (continueFrame keep r w).Free := by
  unfold continueFrame
  dsimp only
  split
  · rfl
  · split <;> rfl
  · split
    · split
      · trivial
      · rfl
    · rfl

/-- An assembler that holds no frame is not made to hold one by a symbol. -/
theorem arrive_free {a : Assembler} (free : a.holding = false) (keep : Bool) (w : Symbol) : (a.arrive keep w).Free := by
  cases a with
  | idle =>
    change (if symbolMarked w then _ else _ : Arrival).Free
    split <;> rfl
  | hunt =>
    change (if symbolMarked w then _ else _ : Arrival).Free
    split <;> rfl
  | receiving r =>
    change (if symbolMarked w then _ else _ : Arrival).Free
    split
    · rfl
    · exact continueFrame_free keep r w
  | hold r => contradiction

/-- A pair that is ready has its acknowledge low (R2). -/
theorem ack_of_ready {r : Receiver} (h : r.ready = true) : r.ack = false := by
  simp only [Receiver.ready, Bool.and_eq_true, Bool.not_eq_true'] at h
  exact h.2

/-! ## The queues -/

section Queues

variable {s : State} (h : s.QueuesWithinPlaces)

theorem queues_side {t : State} (h : s.QueuesWithinPlaces) (same : t.lineSide = s.lineSide) : t.QueuesWithinPlaces := by
  have blanked : t.lineSide.QueuesWithinPlaces := by
    rw [same]
    exact h
  exact blanked

/-- With nothing queued and no frame held the law holds. -/
theorem queues_empty (intake : s.intake = []) (fieldOut : s.fieldOut = []) (forward : s.forward = [])
    (run : s.verdictRun = 0) (free : s.fieldAsm.holding = false) : s.QueuesWithinPlaces := by
  simp [State.QueuesWithinPlaces, intake, fieldOut, forward, run, free]

theorem queues_restartFull : s.restartFull.QueuesWithinPlaces := by
  refine queues_empty rfl rfl rfl rfl ?_
  cases h : s.fieldAsm <;> simp [State.restartFull, h, Assembler.holding]

include h

theorem queues_effect {t : State} (effect : CommandEffect s t) : t.QueuesWithinPlaces := by
  obtain same | rfl := effect.lineSide
  · exact queues_side h same
  · exact queues_restartFull

theorem queues_ran {t : State} (ran : Ran s t) : t.QueuesWithinPlaces := by
  obtain ⟨code, a, effect, rfl⟩ := ran
  have answered := queues_effect h effect
  exact answered

theorem queues_stationDone : s.stationDone.QueuesWithinPlaces := h

theorem queues_releaseCommand : s.releaseCommand.QueuesWithinPlaces := by
  unfold State.releaseCommand
  split
  · split
    · exact queues_ran (queues_stationDone h) (runCommand_ran _ _)
    · exact h
  · exact h

theorem queues_sendForwarded : s.sendForwarded.QueuesWithinPlaces := by
  obtain ⟨intake, fieldOut, forward, _, held⟩ := h
  unfold State.sendForwarded
  split
  · exact ⟨intake, fieldOut, forward, by assumption, held⟩
  · next f rest waiting =>
    have fewer : rest.length ≤ 8 := by
      rw [waiting, List.length_cons] at forward
      omega
    exact ⟨intake, fieldOut, fewer, Nat.zero_le 4, held⟩

theorem queues_arbitrate : s.arbitrate.QueuesWithinPlaces := by
  have ⟨intake, fieldOut, forward, _, held⟩ := h
  unfold State.arbitrate
  split
  · unfold State.choose
    split
    · have started : ∀ t : Transmitter,
          ({ s with response := none, verdictRun := 0, stationTx := t } : State).QueuesWithinPlaces := fun _ =>
        ⟨intake, fieldOut, forward, Nat.zero_le 4, held⟩
      exact queues_releaseCommand (started _)
    · split
      · exact queues_sendForwarded h
      · split
        · exact ⟨intake, fieldOut, forward, Nat.min_le_left 4 _, held⟩
        · exact queues_sendForwarded h
  · exact h

theorem queues_pumpField : s.pumpField.QueuesWithinPlaces := by
  have ⟨intake, fieldOut, forward, run, held⟩ := h
  unfold State.pumpField
  split
  · split
    · exact h
    · next f rest waiting =>
      rw [waiting, List.length_cons] at fieldOut
      unfold State.releaseFieldFrame
      dsimp only
      split
      · split
        · next free =>
          have room : rest.length < 4 := free.2
          refine ⟨intake, ?_, forward, run, held⟩
          simp only [List.length_append, List.length_singleton]
          omega
        · exact ⟨intake, by dsimp only; omega, forward, run, held⟩
      · exact ⟨intake, by dsimp only; omega, forward, run, held⟩
  · exact h

theorem queues_dispatch (r : FrameRecord) : (s.dispatch r).QueuesWithinPlaces := by
  have ⟨intake, fieldOut, forward, run, held⟩ := h
  unfold State.dispatch
  split
  · split
    · split
      · exact queues_ran (queues_stationDone h) (runCommand_ran _ _)
      · exact h
    · exact h
  · split
    · next room =>
      have queued : ({ s.stationDone with fieldOut := s.fieldOut ++ [r.bytes] } : State).QueuesWithinPlaces := by
        refine ⟨intake, ?_, forward, run, held⟩
        simp only [List.length_append, List.length_singleton]
        exact room
      exact queues_pumpField queued
    · exact h

theorem queues_stationComplete (r : FrameRecord) : (s.stationComplete r).QueuesWithinPlaces := by
  unfold State.stationComplete
  split
  · exact h
  · exact h
  · exact queues_dispatch h r

theorem queues_stationArrival (w : Symbol) : (State.stationArrival w s).QueuesWithinPlaces := by
  have risen : ({ s with stationRx := s.stationRx.rise } : State).QueuesWithinPlaces := h
  unfold State.stationArrival
  dsimp only
  split
  · split
    · exact h
    · exact h
    · exact queues_arbitrate (queues_stationComplete risen _)
  · exact h

/-- The field assembler moves to a state that holds no frame. -/
theorem queues_fieldAsm {a : Assembler} (free : a.holding = false) (r : Receiver) :
    ({ s with fieldAsm := a, fieldRx := r } : State).QueuesWithinPlaces := by
  obtain ⟨intake, fieldOut, forward, run, _⟩ := h
  exact ⟨intake, fieldOut, forward, run, fun held => absurd held (by simp [free])⟩

theorem queues_damagedReport (a : Byte) : (s.damagedReport a).QueuesWithinPlaces := by
  unfold State.damagedReport
  split
  · exact h
  · exact queues_side h (lineSide_countDamage s _)

theorem queues_fieldDiscard (r : FrameRecord) (d : Defect) : (s.fieldDiscard r d).QueuesWithinPlaces := by
  have posted : ((s.fieldTaken .idle).postLine d.field).QueuesWithinPlaces := queues_fieldAsm h rfl _
  unfold State.fieldDiscard
  dsimp only
  split
  · exact queues_damagedReport posted _
  · exact posted

theorem queues_fieldGood (low : s.fieldRx.ack = false) (r : FrameRecord) : (s.fieldGood r).QueuesWithinPlaces := by
  have ⟨intake, fieldOut, forward, run, _⟩ := h
  unfold State.fieldGood
  split
  · next room =>
    have fits : s.intake.length < 6 := room
    refine ⟨?_, fieldOut, forward, run, fun held => by simp [State.fieldTaken, Assembler.holding] at held⟩
    simp only [List.length_append, List.length_singleton]
    omega
  · next full =>
    have many : ¬ s.intake.length < 6 := full
    exact ⟨intake, fieldOut, forward, run, fun _ => ⟨by simp only [State.postLine_intake]; omega, low⟩⟩

theorem queues_fieldComplete (low : s.fieldRx.ack = false) (r : FrameRecord) : (s.fieldComplete r).QueuesWithinPlaces := by
  unfold State.fieldComplete
  split
  · exact queues_fieldDiscard h r _
  · exact queues_fieldDiscard h r _
  · exact queues_fieldGood h low r

theorem queues_fieldArrival (w : Symbol) : (State.fieldArrival w s).QueuesWithinPlaces := by
  have ⟨intake, fieldOut, forward, run, held⟩ := h
  have risen : ({ s with fieldRx := s.fieldRx.rise } : State).QueuesWithinPlaces := ⟨intake, fieldOut, forward, run, held⟩
  unfold State.fieldArrival
  dsimp only
  split
  · next sampled =>
    rw [Bool.and_eq_true, Bool.not_eq_true'] at sampled
    have free := arrive_free sampled.2 true w
    have low : s.fieldRx.ack = false := ack_of_ready sampled.1
    split
    · next a e => exact queues_fieldAsm h (by rw [e] at free; exact free) _
    · next d a e => exact queues_fieldAsm h (by rw [e] at free; exact free) _
    · exact queues_arbitrate (queues_fieldComplete risen low _)
  · exact risen

/-- A finishable head leaves; a held frame takes its place, and the forward queue has room for it (R12, R47, R51). -/
theorem queues_takeHead : s.takeHead.QueuesWithinPlaces := by
  have ⟨intake, fieldOut, forward, run, held⟩ := h
  unfold State.takeHead
  split
  · exact h
  · next f rest waiting =>
    dsimp only
    split
    · next finishable =>
      rw [waiting, List.length_cons] at intake
      have removed : (s.removeHead rest).QueuesWithinPlaces ∧ (s.removeHead rest).forward = s.forward := by
        unfold State.removeHead
        split
        · refine ⟨⟨?_, fieldOut, forward, run, fun again => by simp [Assembler.holding] at again⟩, rfl⟩
          simp only [List.length_append, List.length_singleton]
          omega
        · next free =>
          refine ⟨⟨by dsimp only; omega, fieldOut, forward, run, fun again => ?_⟩, rfl⟩
          cases a : s.fieldAsm with
          | hold r => exact absurd a (free r)
          | idle | receiving _ | hunt => simp [a, Assembler.holding] at again
      have treated := queues_side removed.1 (lineSide_treat (s.removeHead rest) f (s.treatment f.bytes))
      have same : ((s.removeHead rest).treat f (s.treatment f.bytes)).forward = s.forward :=
        (congrArg State.forward (lineSide_treat (s.removeHead rest) f (s.treatment f.bytes)) :).trans removed.2
      cases action : (s.treatment f.bytes).action with
      | absorb => exact treated
      | forward =>
        obtain ⟨intake', fieldOut', _, run', held'⟩ := treated
        have room : s.forward.length < 8 := by simpa [State.finishable, action] using finishable
        refine ⟨intake', fieldOut', ?_, run', held'⟩
        change (State.forward _ ++ [f.bytes]).length ≤ 8
        rw [same, List.length_append, List.length_singleton]
        omega
    · exact h

end Queues

theorem queues_lineLaw : LineLaw State.QueuesWithinPlaces State.QueuesWithinPlaces where
  weaken h := h
  side := queues_side
  still h same _ := queues_side h same
  arbitrate := queues_arbitrate

theorem queues_eventLaw : EventLaw State.QueuesWithinPlaces where
  toCountLaw := queues_lineLaw.countLaw
  command {s payload run} h runs := by
    unfold State.takeCommand
    split
    · exact h
    · split
      · exact h
      · exact queues_arbitrate (queues_ran (s := { s with stationAsm := .idle }) h (runs _))
  classify h := queues_arbitrate (queues_takeHead h)
  wetLevel {s i high} h := by
    unfold State.wetLevel
    split <;> exact h
  fieldArrival h := queues_fieldArrival h _
  fieldStrobeFall h := by
    obtain ⟨intake, fieldOut, forward, run, held⟩ := h
    exact ⟨intake, fieldOut, forward, run, fun holding => ⟨(held holding).1, rfl⟩⟩
  fieldTimeout h := by
    unfold State.fieldTimeout
    split
    · exact queues_fieldAsm h rfl _
    · exact h
  fieldAckRise {s} h := queues_pumpField (s := { s with fieldTx := s.fieldTx.ackRise }) h
  fieldAckFall h := h
  fieldAllowance {s} h := by
    unfold State.fieldAllowance
    split
    · exact queues_pumpField (s := State.postLine { s with fieldTx := s.fieldTx.abandon } .fieldStall) h
    · exact h
  stationArrival h := queues_stationArrival h _
  stationStrobeFall h := h
  stationTimeout h := by
    unfold State.stationTimeout
    split <;> exact h
  stationAckRise {s} h := queues_arbitrate (s := { s with stationTx := s.stationTx.ackRise }) h
  stationAckFall h := h
  stationAllowance {s} h := by
    unfold State.stationAllowance
    split
    · exact queues_arbitrate (s := State.postLine { s with stationTx := s.stationTx.abandon } .stationStall) h
    · exact h
  heldFieldRise _ h := h
  heldStationRise _ h := h
  heldFieldAck _ h := h
  heldStationAck _ h := h
  heldWetPin _ h := h

/-- Settles O52: the queues are a law of the lines, and the verdict queue is one of the tables. -/
theorem queuesStayWithinTheirPlaces : Obligations.QueuesStayWithinTheirPlaces := by
  unfold Obligations.QueuesStayWithinTheirPlaces
  rintro s t ⟨queues, verdicts⟩ e
  have rows := verdicts_tableLaw.eventLaw
  exact ⟨queues_eventLaw.step (fun _ _ h => h) (queues_eventLaw.toCountLaw.tick fun _ h => h)
      (fun _ _ _ _ => queues_empty rfl rfl rfl rfl rfl) queues e,
    rows.step (fun _ _ h => h) (rows.tick fun _ h => h) (fun _ _ _ _ => verdicts_none rfl) verdicts e⟩

end Sys2Proof.Machine

/-! SUPPORT. Nothing idles with work, held frames have their reason, and strobes are lawful: O58. -/

namespace Sys2Proof.Machine

open Sys2Proof

/-! ## A transmit pair (R16 to R18) -/

section Pair

variable {t : Transmitter} (h : t.Lawful)
include h

theorem lawful_start (f : Frame) : (t.start f).Lawful := by
  obtain ⟨_, _, owed⟩ := h
  cases high : t.ack with
  | true =>
    rw [Transmitter.start_ack high]
    exact ⟨by simp, fun _ _ => high, owed⟩
  | false =>
    rw [Transmitter.start_clear high]
    exact ⟨fun _ => ⟨f, 1, rfl, rfl⟩, by simp, owed⟩

theorem lawful_ackRise : t.ackRise.Lawful := by
  have ⟨strobe, waiting, owed⟩ := h
  unfold Transmitter.ackRise
  split
  · exact h
  · next low =>
    split
    · exact ⟨strobe, fun _ _ => rfl, by simp⟩
    · next free =>
      have paid : t.owed = true → t.ack = false := owed
      split
      · exact ⟨strobe, fun _ _ => rfl, fun owes => absurd owes free⟩
      · split
        · exact ⟨by simp, fun _ _ => rfl, fun owes => absurd owes free⟩
        · exact ⟨strobe, fun _ _ => rfl, fun owes => absurd owes free⟩

theorem lawful_ackFall : t.ackFall.Lawful := by
  have ⟨strobe, waiting, owed⟩ := h
  unfold Transmitter.ackFall Transmitter.present
  split
  · next idle => exact ⟨strobe, fun busy => absurd idle busy, fun _ => rfl⟩
  · next f p sending =>
    split
    · next presented =>
      exact ⟨strobe, fun _ down => by simp_all, fun _ => rfl⟩
    · exact ⟨fun _ => ⟨f, p, sending, rfl⟩, by simp, fun _ => rfl⟩

theorem lawful_abandon : t.abandon.Lawful := by
  obtain ⟨_, _, owed⟩ := h
  refine ⟨by simp [Transmitter.abandon], by simp [Transmitter.abandon], fun owes => ?_⟩
  simp only [Transmitter.abandon, Bool.or_eq_true, Bool.and_eq_true, Bool.not_eq_true'] at owes
  obtain before | ⟨_, low⟩ := owes
  · exact owed before
  · exact low

end Pair

theorem present_sender (t : Transmitter) : t.present.sender = t.sender := by
  unfold Transmitter.present
  split
  · rfl
  · split <;> rfl

theorem ackFall_sender (t : Transmitter) : t.ackFall.sender = t.sender := present_sender _

theorem powerOn_transmitter_lawful (ack : Bool) : (Transmitter.powerOn ack).Lawful := by
  refine ⟨?_, ?_, ?_⟩ <;> simp [Transmitter.powerOn]

/-! ## The lines of a running part -/

/-- A held station frame waits for its own obstacle, its final symbol unacknowledged (R154). -/
def State.FramesHeld (s : State) : Prop :=
  ∀ r, s.stationAsm = .hold r →
    s.stationRx.ack = false ∧
    (frameAddress r.bytes = s.ownAddress → s.isOwnCommand r.bytes = true ∧ s.response.isSome = true) ∧
    (frameAddress r.bytes ≠ s.ownAddress → 4 ≤ s.fieldOut.length)

/-- The part runs, its transmit pairs are lawful and its held frame has its reason. -/
def State.PairsWork (s : State) : Prop :=
  s.resetLow = false ∧ s.fieldTx.Lawful ∧ s.stationTx.Lawful ∧ s.FramesHeld

/-- The lines as an operation on the tables leaves them: the field transmitter does not idle with work. -/
def State.LinesWork (s : State) : Prop := s.PairsWork ∧ (s.fieldTx.sender = .idle → s.fieldOut = [])

/-- The station transmitter does not idle with work. -/
def State.StationWorks (s : State) : Prop :=
  s.stationTx.sender = .idle → s.response = none ∧ s.verdicts = [] ∧ s.forward = []

theorem stationWorks_of_busy {s : State} (h : s.stationTx.sender ≠ .idle) : s.StationWorks := fun idle => absurd idle h

/-- An assembler that holds no frame has none to account for. -/
theorem framesHeld_of_free {s : State} (free : s.stationAsm.holding = false) : s.FramesHeld := fun r held => by
  simp [held, Assembler.holding] at free

theorem lines_side {s t : State} (h : s.LinesWork) (same : t.lineSide = s.lineSide) : t.LinesWork := by
  have blanked : t.lineSide.LinesWork := by
    rw [same]
    exact h
  exact blanked

/-- A command run with no frame held leaves the lines at work and the station pair as it is. -/
theorem lines_ran {s t : State} (h : s.LinesWork) (free : s.stationAsm.holding = false) (ran : Ran s t) :
    t.LinesWork ∧ t.stationTx = s.stationTx := by
  obtain ⟨code, a, effect, rfl⟩ := ran
  obtain ⟨⟨running, fieldTx, stationTx, _⟩, idle⟩ := h
  obtain same | full := effect.lineSide
  · have asm : a.state.stationAsm = s.stationAsm := (congrArg State.stationAsm same :)
    have low : a.state.resetLow = s.resetLow := (congrArg State.resetLow same :)
    have field : a.state.fieldTx = s.fieldTx := (congrArg State.fieldTx same :)
    have station : a.state.stationTx = s.stationTx := (congrArg State.stationTx same :)
    have out : a.state.fieldOut = s.fieldOut := (congrArg State.fieldOut same :)
    refine ⟨⟨⟨?_, ?_, ?_, framesHeld_of_free ?_⟩, ?_⟩, station⟩
    · simp only [State.place_resetLow, low, running]
    · simpa only [State.place_fieldTx, field] using fieldTx
    · simpa only [State.place_stationTx, station] using stationTx
    · simpa only [State.place_stationAsm, asm] using free
    · simpa only [State.place_fieldTx, State.place_fieldOut, field, out] using idle
  · have restarted : (State.place s.ownAddress code { a with state := s.restartFull }).LinesWork :=
      ⟨⟨running, fieldTx, stationTx, framesHeld_of_free free⟩, fun _ => rfl⟩
    rw [← full] at restarted
    exact ⟨restarted, by rw [State.place_stationTx, full]; rfl⟩

section Lines

variable {s : State} (h : s.LinesWork)
include h

/-- A lawful station pair in the place of the one there. -/
theorem lines_stationTx {tx : Transmitter} (law : tx.Lawful) : ({ s with stationTx := tx } : State).LinesWork := by
  obtain ⟨⟨running, fieldTx, _, held⟩, idle⟩ := h
  exact ⟨⟨running, fieldTx, law, held⟩, idle⟩

/-- The final symbol acknowledged and the assembler in a state that holds no frame. -/
theorem lines_stationAsm {a : Assembler} (free : a.holding = false) (r : Receiver) :
    ({ s with stationAsm := a, stationRx := r } : State).LinesWork := by
  obtain ⟨⟨running, fieldTx, stationTx, _⟩, idle⟩ := h
  exact ⟨⟨running, fieldTx, stationTx, framesHeld_of_free free⟩, idle⟩

/-- A frame starts up the station line; the queues it came from are no matter of the pairs. -/
theorem lines_started (f : Frame) (forward : List Frame) (verdicts : List Verdict) (run : Nat) :
    State.LinesWork
      { s with forward := forward, verdicts := verdicts, verdictRun := run, stationTx := s.stationTx.start f } := by
  obtain ⟨⟨running, fieldTx, stationTx, held⟩, idle⟩ := h
  exact ⟨⟨running, fieldTx, lawful_start stationTx _, held⟩, idle⟩

theorem lines_sendForwarded (silent : s.response = none) (empty : s.verdicts = [] ∨ s.forward ≠ []) :
    s.sendForwarded.LinesWork ∧ s.sendForwarded.StationWorks := by
  unfold State.sendForwarded
  split
  · next none => exact ⟨h, fun _ => ⟨silent, empty.resolve_right (fun some => some none), none⟩⟩
  · next f rest waiting =>
    refine ⟨lines_started h _ rest s.verdicts 0, stationWorks_of_busy ?_⟩
    simp [State.startStation]

/-- The start of a response lets a held COMMAND be executed, and leaves any other held frame (R154). -/
theorem lines_answer (f : Frame) :
    (State.startStation { s with response := none, verdictRun := 0 } f).releaseCommand.LinesWork ∧
      (State.startStation { s with response := none, verdictRun := 0 } f).releaseCommand.StationWorks := by
  obtain ⟨⟨running, fieldTx, stationTx, held⟩, idle⟩ := h
  have busy : (State.startStation { s with response := none, verdictRun := 0 } f).stationTx.sender ≠ .idle := by
    simp [State.startStation]
  unfold State.releaseCommand
  split
  · next r holds =>
    obtain ⟨low, own, other⟩ := held r holds
    split
    · have started : (State.startStation { s with response := none, verdictRun := 0 } f).stationDone.LinesWork :=
        ⟨⟨running, fieldTx, lawful_start stationTx _, framesHeld_of_free rfl⟩, idle⟩
      obtain ⟨work, same⟩ := lines_ran started rfl (runCommand_ran _ (framePayload r.bytes))
      exact ⟨work, stationWorks_of_busy (by rw [same]; exact busy)⟩
    · next foreign =>
      have notOwn : frameAddress r.bytes ≠ s.ownAddress := fun mine => foreign (own mine).1
      refine ⟨⟨⟨running, fieldTx, lawful_start stationTx _, fun r' holds' => ?_⟩, idle⟩, stationWorks_of_busy busy⟩
      have same : r = r' := Assembler.hold.inj (holds.symm.trans holds')
      subst same
      exact ⟨low, fun mine => absurd mine notOwn, other⟩
  · next free =>
    exact ⟨⟨⟨running, fieldTx, lawful_start stationTx _, fun r holds => absurd holds (free r)⟩, idle⟩,
      stationWorks_of_busy busy⟩

theorem lines_arbitrate : s.arbitrate.LinesWork ∧ s.arbitrate.StationWorks := by
  by_cases idle : s.stationTx.sender = .idle
  · rw [State.arbitrate_idle idle]
    unfold State.choose
    split
    · next f _ => exact lines_answer h f
    · next silent =>
      split
      · next empty => exact lines_sendForwarded h silent (.inl empty)
      · split
        · next v rest waiting turn =>
          refine ⟨lines_started h _ s.forward rest _, stationWorks_of_busy ?_⟩
          simp [State.startStation]
        · next passed => exact lines_sendForwarded h silent (.inr fun none => passed (.inr none))
  · rw [State.arbitrate_busy idle]
    exact ⟨h, stationWorks_of_busy idle⟩

end Lines

/-! ## The field transmitter and its queue -/

/-- The field transmitter with its queue: in IDLE it takes the next frame, and a frame held for the field takes the place freed
(R16, R154). -/
theorem lines_pumpField {s : State} (h : s.PairsWork) : s.pumpField.LinesWork := by
  have ⟨running, fieldTx, stationTx, held⟩ := h
  by_cases idle : s.fieldTx.sender = .idle
  · unfold State.pumpField
    simp only [Transmitter.isIdle, idle, beq_self_eq_true, if_true]
    split
    · next empty => exact ⟨h, fun _ => empty⟩
    · next f rest waiting =>
      have started := lawful_start fieldTx f
      have busy : (s.fieldTx.start f).sender ≠ .idle := by simp
      unfold State.releaseFieldFrame
      dsimp only
      split
      · next r holds =>
        obtain ⟨low, own, other⟩ := held r holds
        split
        · exact ⟨⟨running, started, stationTx, framesHeld_of_free rfl⟩, fun idle => absurd idle busy⟩
        · next kept =>
          refine ⟨⟨running, started, stationTx, fun r' holds' => ?_⟩, fun idle => absurd idle busy⟩
          have same : r = r' := Assembler.hold.inj (holds.symm.trans holds')
          subst same
          refine ⟨low, own, fun notOwn => ?_⟩
          by_contra few
          exact kept ⟨notOwn, Nat.lt_of_not_le few⟩
      · next free =>
        exact ⟨⟨running, started, stationTx, fun r holds => absurd holds (free r)⟩, fun idle => absurd idle busy⟩
  · rw [State.pumpField_busy idle]
    exact ⟨h, fun now => absurd now idle⟩

/-- The field transmitter touches nothing that waits for the station line. -/
theorem stationWorks_pumpField {s : State} (h : s.StationWorks) : s.pumpField.StationWorks := by
  unfold State.pumpField
  split
  · split
    · exact h
    · unfold State.releaseFieldFrame
      split
      · split <;> exact h
      · exact h
  · exact h

/-! ## Station frames -/

section Station

variable {s : State} (h : s.LinesWork)
include h

/-- The dispatch of a good frame finds no frame held and the acknowledge low (R153, R154). -/
theorem lines_dispatch (low : s.stationRx.ack = false) (r : FrameRecord) : (s.dispatch r).LinesWork := by
  have ⟨⟨running, fieldTx, stationTx, _⟩, idle⟩ := h
  have done : s.stationDone.LinesWork := lines_stationAsm h rfl _
  unfold State.dispatch
  split
  · next mine =>
    split
    · next command =>
      split
      · exact (lines_ran done rfl (runCommand_ran _ _)).1
      · next full =>
        refine ⟨⟨running, fieldTx, stationTx, fun r' holds => ?_⟩, idle⟩
        obtain rfl := Assembler.hold.inj holds
        refine ⟨low, fun _ => ⟨?_, Option.isSome_iff_ne_none.mpr full⟩, fun notOwn => absurd mine notOwn⟩
        simp [State.isOwnCommand, mine, command]
    · exact done
  · next foreign =>
    split
    · exact lines_pumpField ⟨running, fieldTx, stationTx, framesHeld_of_free rfl⟩
    · next full =>
      refine ⟨⟨running, fieldTx, stationTx, fun r' holds => ?_⟩, idle⟩
      obtain rfl := Assembler.hold.inj holds
      exact ⟨low, fun mine => absurd mine foreign, fun _ => Nat.le_of_not_lt full⟩

theorem lines_stationComplete (low : s.stationRx.ack = false) (r : FrameRecord) : (s.stationComplete r).LinesWork := by
  unfold State.stationComplete
  split
  · exact lines_stationAsm h rfl _
  · exact lines_stationAsm h rfl _
  · exact lines_dispatch h low r

/-- A rising strobe leaves the acknowledge, and with it a held frame, as it is. -/
theorem lines_stationRise : ({ s with stationRx := s.stationRx.rise } : State).LinesWork := by
  obtain ⟨⟨running, fieldTx, stationTx, held⟩, idle⟩ := h
  exact ⟨⟨running, fieldTx, stationTx, held⟩, idle⟩

theorem lines_stationArrival (works : s.StationWorks) (w : Symbol) :
    (State.stationArrival w s).LinesWork ∧ (State.stationArrival w s).StationWorks := by
  unfold State.stationArrival
  dsimp only
  split
  · next sampled =>
    rw [Bool.and_eq_true, Bool.not_eq_true'] at sampled
    have free := arrive_free sampled.2 false w
    have low : s.stationRx.ack = false := ack_of_ready sampled.1
    split
    · next a e => exact ⟨lines_stationAsm h (by rw [e] at free; exact free) _, works⟩
    · next d a e => exact ⟨lines_stationAsm h (by rw [e] at free; exact free) _, works⟩
    · exact lines_arbitrate (lines_stationComplete (lines_stationRise h) low _)
  · exact ⟨lines_stationRise h, works⟩

end Station

/-! ## Field frames and the classifier leave the transmitters alone -/

section Field

variable {s : State} (h : s.LinesWork)
include h

theorem lines_damagedReport (a : Byte) : (s.damagedReport a).LinesWork := by
  unfold State.damagedReport
  split
  · exact h
  · exact lines_side h (lineSide_countDamage s _)

theorem lines_fieldComplete (r : FrameRecord) : (s.fieldComplete r).LinesWork := by
  have discarded (d : Defect) : (s.fieldDiscard r d).LinesWork := by
    unfold State.fieldDiscard
    dsimp only
    split
    · exact lines_damagedReport (s := (s.fieldTaken .idle).postLine d.field) h _
    · exact h
  unfold State.fieldComplete
  split
  · exact discarded _
  · exact discarded _
  · unfold State.fieldGood
    split <;> exact h

theorem lines_fieldArrival (works : s.StationWorks) (w : Symbol) :
    (State.fieldArrival w s).LinesWork ∧ (State.fieldArrival w s).StationWorks := by
  unfold State.fieldArrival
  dsimp only
  split
  · split
    · exact ⟨h, works⟩
    · exact ⟨h, works⟩
    · exact lines_arbitrate (lines_fieldComplete (s := { s with fieldRx := s.fieldRx.rise }) h _)
  · exact ⟨h, works⟩

theorem lines_takeHead : s.takeHead.LinesWork := by
  unfold State.takeHead
  split
  · exact h
  · next f rest _ =>
    dsimp only
    split
    · have removed : (s.removeHead rest).LinesWork := by
        unfold State.removeHead
        split <;> exact h
      have treated := lines_side removed (lineSide_treat (s.removeHead rest) f (s.treatment f.bytes))
      cases (s.treatment f.bytes).action with
      | absorb => exact treated
      | forward => exact treated
    · exact h

end Field

/-! ## Every row keeps the lines at work -/

theorem lines_lineLaw : LineLaw State.LinesWork fun s => s.LinesWork ∧ s.StationWorks where
  weaken h := h.1
  side := lines_side
  still {s t} h same verdicts := by
    refine ⟨lines_side h.1 same, fun idle => ?_⟩
    have station : t.stationTx = s.stationTx := (congrArg State.stationTx same :)
    obtain ⟨silent, empty, none⟩ := h.2 (by rw [← station]; exact idle)
    exact ⟨(congrArg State.response same :).trans silent, verdicts.trans empty, (congrArg State.forward same :).trans none⟩
  arbitrate := lines_arbitrate

theorem commandRecord_kind (own : Byte) (payload : List Byte) :
    frameKind (commandRecord own payload).bytes = kindCommand := by
  simp [commandRecord, mkFrame, withCheck, frameKind, kindCommand]

theorem lines_command {s : State} (h : s.LinesWork) (works : s.StationWorks) (payload : List Byte) {run : State → State}
    (runs : ∀ u, Ran u (run u)) :
    (State.takeCommand payload run s).LinesWork ∧ (State.takeCommand payload run s).StationWorks := by
  have ⟨⟨running, fieldTx, stationTx, _⟩, idle⟩ := h
  unfold State.takeCommand
  split
  · exact ⟨h, works⟩
  · split
    · next full =>
      refine ⟨⟨⟨running, fieldTx, stationTx, fun r holds => ?_⟩, idle⟩, works⟩
      obtain rfl := Assembler.hold.inj holds
      have mine : frameAddress (commandRecord s.ownAddress payload).bytes = s.ownAddress := rfl
      have command := commandRecord_kind s.ownAddress payload
      exact ⟨rfl, fun _ => ⟨by simp [State.isOwnCommand, mine, command], full⟩, fun notOwn => absurd mine notOwn⟩
    · have free : ({ s with stationAsm := .idle } : State).LinesWork :=
        ⟨⟨running, fieldTx, stationTx, framesHeld_of_free rfl⟩, idle⟩
      exact lines_arbitrate (lines_ran free rfl (runs _)).1

theorem lines_eventLaw : EventLaw fun s => s.LinesWork ∧ s.StationWorks where
  toCountLaw := lines_lineLaw.countLaw
  command h runs := lines_command h.1 h.2 _ runs
  classify h := lines_arbitrate (lines_takeHead h.1)
  wetLevel {s i high} h := by
    unfold State.wetLevel
    split <;> exact h
  fieldArrival h := lines_fieldArrival h.1 h.2 _
  fieldStrobeFall h := h
  fieldTimeout h := by
    unfold State.fieldTimeout
    split <;> exact h
  fieldAckRise {s} h := by
    obtain ⟨⟨⟨running, fieldTx, stationTx, held⟩, _⟩, works⟩ := h
    have risen : ({ s with fieldTx := s.fieldTx.ackRise } : State).PairsWork :=
      ⟨running, lawful_ackRise fieldTx, stationTx, held⟩
    exact ⟨lines_pumpField risen, stationWorks_pumpField works⟩
  fieldAckFall {s} h := by
    obtain ⟨⟨⟨running, fieldTx, stationTx, held⟩, idle⟩, works⟩ := h
    exact ⟨⟨⟨running, lawful_ackFall fieldTx, stationTx, held⟩, fun now => idle ((ackFall_sender _).symm.trans now)⟩, works⟩
  fieldAllowance {s} h := by
    unfold State.fieldAllowance
    split
    · obtain ⟨⟨⟨running, fieldTx, stationTx, held⟩, _⟩, works⟩ := h
      have abandoned : (State.postLine { s with fieldTx := s.fieldTx.abandon } .fieldStall).PairsWork :=
        ⟨running, lawful_abandon fieldTx, stationTx, held⟩
      exact ⟨lines_pumpField abandoned, stationWorks_pumpField works⟩
    · exact h
  stationArrival h := lines_stationArrival h.1 h.2 _
  stationStrobeFall h := by
    obtain ⟨⟨⟨running, fieldTx, stationTx, held⟩, idle⟩, works⟩ := h
    exact ⟨⟨⟨running, fieldTx, stationTx, fun r holds => ⟨rfl, (held r holds).2⟩⟩, idle⟩, works⟩
  stationTimeout {s} h := by
    unfold State.stationTimeout
    split
    · exact ⟨lines_stationAsm h.1 (a := .idle) rfl s.stationRx, h.2⟩
    · exact h
  stationAckRise h := lines_arbitrate (lines_stationTx h.1 (lawful_ackRise h.1.1.2.2.1))
  stationAckFall {s} h := by
    refine ⟨lines_stationTx h.1 (lawful_ackFall h.1.1.2.2.1), fun now => ?_⟩
    exact h.2 ((ackFall_sender s.stationTx).symm.trans now)
  stationAllowance {s} h := by
    unfold State.stationAllowance
    split
    · exact lines_arbitrate (s := State.postLine { s with stationTx := s.stationTx.abandon } .stationStall)
        (lines_stationTx h.1 (lawful_abandon h.1.1.2.2.1))
    · exact h
  heldFieldRise low h := absurd low (by simp [h.1.1.1])
  heldStationRise low h := absurd low (by simp [h.1.1.1])
  heldFieldAck low h := absurd low (by simp [h.1.1.1])
  heldStationAck low h := absurd low (by simp [h.1.1.1])
  heldWetPin low h := absurd low (by simp [h.1.1.1])

/-! ## Resets -/

/-- A part that comes out of a reset has nothing queued, its transmitters IDLE and every line at its reset level. -/
theorem lines_coldStart (s : State) (own : Byte) (low : Bool) :
    (s.coldStart own low).NothingWaitsIdle ∧ (s.coldStart own low).LinesLawful := by
  refine ⟨⟨fun _ => ⟨rfl, rfl, rfl⟩, fun _ => rfl, fun r holds => nomatch holds⟩,
    powerOn_transmitter_lawful _, powerOn_transmitter_lawful _, fun _ =>
      ⟨rfl, rfl, rfl, ⟨rfl, rfl, rfl⟩, ⟨rfl, rfl, rfl⟩, rfl, fun i => ?_⟩⟩
  simp [State.coldStart, State.reset, State.output, Output.pinHigh, Output.powerOn, Output.activeAt]

/-- Held in reset with its lines at their reset levels, a part whose input levels move stays so. -/
theorem lines_levelsMoved {s t : State} (works : s.NothingWaitsIdle) (law : s.LinesLawful) (low : s.resetLow = true)
    (moved : LevelsMoved s t) : t.NothingWaitsIdle ∧ t.LinesLawful := by
  obtain ⟨e, _⟩ := moved
  obtain ⟨station, field, held⟩ := works
  obtain ⟨_, _, reset⟩ := law
  obtain ⟨counter, fieldAck, stationAck, ⟨fieldIdle, fieldLow, fieldPaid⟩, ⟨stationIdle, stationLow, stationPaid⟩, alert,
    pins⟩ := reset low
  rw [e]
  refine ⟨⟨station, field, held⟩, ⟨?_, ?_, ?_⟩, ⟨?_, ?_, ?_⟩, fun _ => ⟨counter, fieldAck, stationAck,
    ⟨fieldIdle, fieldLow, fieldPaid⟩, ⟨stationIdle, stationLow, stationPaid⟩, alert, pins⟩⟩
  all_goals simp [fieldIdle, fieldLow, fieldPaid, stationIdle, stationLow, stationPaid]

/-- A running part with its lines at work is one whose lines are lawful. -/
theorem linesWork_iff {s : State} (running : s.resetLow = false) :
    (s.LinesWork ∧ s.StationWorks) ↔ s.NothingWaitsIdle ∧ s.LinesLawful := by
  constructor
  · rintro ⟨⟨⟨_, fieldTx, stationTx, held⟩, idle⟩, works⟩
    exact ⟨⟨works, idle, held⟩, fieldTx, stationTx, fun low => absurd low (by simp [running])⟩
  · rintro ⟨⟨works, idle, held⟩, fieldTx, stationTx, _⟩
    exact ⟨⟨⟨running, fieldTx, stationTx, held⟩, idle⟩, works⟩

/-- A row other than the resets, on a running part. -/
theorem lines_running {s : State} (c : Instr) (works : s.NothingWaitsIdle) (law : s.LinesLawful)
    (running : s.resetLow = false) (row : resetRow c = false) :
    ∃ t, exec c s = .next t ∧ t.NothingWaitsIdle ∧ t.LinesLawful := by
  obtain ⟨t, e, work⟩ := lines_eventLaw.exec ((linesWork_iff running).mpr ⟨works, law⟩) c
    (fun _ => lines_eventLaw.toCountLaw.tick fun _ h => h) fun reset => absurd reset (by simp [row])
  exact ⟨t, e, (linesWork_iff work.1.1.1).mp work⟩

/-- A row other than the resets, on a part held in reset. -/
theorem lines_held {s : State} (c : Instr) (works : s.NothingWaitsIdle) (law : s.LinesLawful)
    (low : s.resetLow = true) (row : resetRow c = false) :
    ∃ t, exec c s = .next t ∧ t.NothingWaitsIdle ∧ t.LinesLawful := by
  have ⟨_, _, reset⟩ := law
  obtain ⟨_, field, station, _⟩ := reset low
  obtain ⟨t, e, moved⟩ := exec_held (c := c) low field station (by rintro a rfl; cases row) (by rintro a rfl; cases row)
  exact ⟨t, e, lines_levelsMoved works law low moved⟩

theorem lines_exec {s : State} (c : Instr) (works : s.NothingWaitsIdle) (law : s.LinesLawful) :
    ∃ t, exec c s = .next t ∧ t.NothingWaitsIdle ∧ t.LinesLawful := by
  cases row : resetRow c with
  | true =>
    cases c with
    | powerOn a => exact ⟨_, rfl, lines_coldStart _ _ _⟩
    | pinReset =>
      refine ⟨_, rfl, ?_⟩
      split
      · exact ⟨works, law⟩
      · exact lines_coldStart _ _ _
    | pinResetRelease a =>
      refine ⟨_, rfl, ?_⟩
      split
      · exact lines_coldStart _ _ _
      · exact ⟨works, law⟩
    | _ => nomatch row
  | false =>
    cases low : s.resetLow with
    | true => exact lines_held c works law low row
    | false => exact lines_running c works law low row

/-- Settles O58: a running part keeps its lines at work, a held one moves its input levels only, and the resets start afresh. -/
theorem linesStayLawful : Obligations.LinesStayLawful := by
  unfold Obligations.LinesStayLawful
  rintro s t ⟨works, law⟩ e
  unfold step at e
  split at e
  · cases e
    exact ⟨works, law⟩
  · next c rest _ =>
    have queued : State.NothingWaitsIdle { s with pending := rest } ∧ State.LinesLawful { s with pending := rest } :=
      ⟨works, law⟩
    generalize ({ s with pending := rest } : State) = u at e queued
    obtain ⟨t', e', lawful⟩ := lines_exec c queued.1 queued.2
    cases e.symm.trans e'
    exact lawful

end Sys2Proof.Machine

/-! SUPPORT. The step, the deadlines and the timebase: O1, O5 and O4. -/

namespace Sys2Proof.Machine

open Sys2Proof Slice0

/-- Settles O1: both clauses are the branches of `step`. -/
theorem stepRunsTheFrontCommand : Obligations.StepRunsTheFrontCommand := by
  unfold Obligations.StepRunsTheFrontCommand
  exact fun c rest s => ⟨rfl, rfl⟩

/-! ## Deadlines in whole numbers (R24 to R26) -/

theorem elapsed_eq (now base : Stamp) : elapsed now base = (now.toNat + 16777216 - base.toNat) % 16777216 := by
  have := now.isLt
  have := base.isLt
  simp only [elapsed, BitVec.toNat_sub]
  omega

theorem limited_le (d : Nat) : limited d ≤ 65535 := Nat.min_le_right _ _

theorem deadlineAt_toNat (base : Stamp) (d : Nat) : (deadlineAt base d).toNat = (base.toNat + limited d) % 16777216 := by
  simp only [deadlineAt, BitVec.toNat_add, BitVec.toNat_ofNat]
  omega

theorem reached_iff (now t : Stamp) : reached now t = true ↔ (now.toNat + 16777216 - t.toNat) % 16777216 < 8388608 := by
  simp [reached, elapsed_eq]

theorem setDeadline_due_iff (now base : Stamp) (d : Nat) :
    (setDeadline now base d).due = true ↔ limited d ≤ elapsed now base := by
  simp [setDeadline]

/-- Settles O5: the two tests are compared on the elapsed time in whole numbers. -/
theorem deadlineTestsAgree : Obligations.DeadlineTestsAgree := by
  unfold Obligations.DeadlineTestsAgree
  intro now base d
  have time : (setDeadline now base d).time.toNat = (base.toNat + limited d) % 16777216 := deadlineAt_toNat base d
  have due := setDeadline_due_iff now base d
  have short := limited_le d
  have now_lt := now.isLt
  have base_lt := base.isLt
  rw [elapsed_eq] at due
  refine ⟨time, due, reached_iff now, fun recent => ?_, fun notDue => ?_⟩
  · have agree : limited d ≤ (now.toNat + 16777216 - base.toNat) % 16777216 ↔
        (now.toNat + 16777216 - (base.toNat + limited d) % 16777216) % 16777216 < 8388608 := by omega
    rw [Bool.eq_iff_iff, due, reached_iff, time]
    exact agree
  · have later : (now.toNat + 16777216 - base.toNat) % 16777216 < limited d := by
      by_contra early
      exact absurd (due.mpr (Nat.le_of_not_lt early)) (by simp [notDue])
    rw [time]
    omega

/-! ## What the counter has reached (R27) -/

theorem all_toList {α : Type} {n : Nat} (v : Vector α n) (p : α → Bool) :
    v.toList.all p = true ↔ ∀ i : Fin n, p v[i] = true := by
  simp [Vector.all_toList, Fin.forall_iff]

theorem inDuty_eq (o : Output) (now : Stamp) : o.inDuty now = withinDuty o now := by
  rw [Bool.eq_iff_iff]
  simp only [Output.inDuty, Output.fullDuty, withinDuty, Bool.or_eq_true, decide_eq_true_eq]
  rfl

/-- A duty that is not over is left as it is, and no other one is. -/
theorem endDuty_eq_self_iff (o : Output) (now : Stamp) :
    o.endDuty now = o ↔ (o.enabled = true → o.driven = true → withinDuty o now = true) := by
  rw [← inDuty_eq]
  rcases o.endDuty_cases now with ⟨on, driven, over', e⟩ | ⟨still, e⟩
  · rw [e]
    constructor
    · intro same
      have off := congrArg Output.driven same
      simp [driven] at off
    · intro running
      simp [running on driven] at over'
  · simp only [e, true_iff]
    rcases still with h | h | h <;> simp [h]

theorem nothingReached_iff (s : State) : s.nothingReached = true ↔ reachesNothing s := by
  simp only [State.nothingReached, Bool.and_eq_true, all_toList]
  simp only [List.all_eq_true, Bool.not_eq_true', beq_iff_eq, endDuty_eq_self_iff]
  constructor
  · rintro ⟨⟨⟨inputs, probes⟩, zones⟩, outputs⟩
    exact ⟨inputs, probes, fun z => ⟨(zones z).1.1.1, (zones z).1.1.2, (zones z).1.2, (zones z).2⟩, outputs⟩
  · rintro ⟨inputs, probes, zones, outputs⟩
    exact ⟨⟨⟨inputs, probes⟩, fun z => ⟨⟨⟨(zones z).1, (zones z).2.1⟩, (zones z).2.2.1⟩, (zones z).2.2.2⟩⟩, outputs⟩

theorem registers_finishCount (s : State) : s.finishCount.registers = s.registers :=
  (registers_tableLaw s.registers).eventLaw.toCountLaw.finishCount s rfl

/-! ## Ticks and resets (R22, R176 to R178) -/

theorem tick_counter (s : State) : s.tick.counter = s.counter + 1 :=
  congrArg (· + 1) (congrArg (·.2.1) (registers_finishCount s) :)

theorem exec_tick {s t : State} (h : s.meets t) : exec .tick s = .next t.tick := event_meets h _

theorem ownAddressOf_eq (straps : BitVec 4) : ownAddressOf straps = BitVec.ofNat 8 (240 + straps.toNat) := by
  have := straps.isLt
  apply BitVec.eq_of_toNat_eq
  simp [ownAddressOf]

/-- Settles O4: a count, the records of power-on, and the three resets. -/
theorem ticksAndResets : Obligations.TicksAndResets := by
  unfold Obligations.TicksAndResets
  refine ⟨fun s t meets => ⟨⟨t.tick, exec_tick meets, ?_, ?_, ?_⟩, fun quiet => ?_⟩,
    ⟨rfl, rfl, rfl, rfl, rfl, rfl, rfl, rfl, fun z => ?_, fun i => ?_, rfl, rfl, rfl, rfl, rfl, rfl, rfl, rfl, rfl, rfl,
      rfl, rfl⟩, fun straps s => ⟨?_, fun low => ?_, fun high => ?_⟩⟩
  · rw [tick_counter]
    rfl
  · exact (congrArg (·.2.2.1) (registers_finishCount t) :)
  · obtain ⟨running, rfl⟩ := meets
    have kept : s.settle.tick.resetLow = s.settle.resetLow := (congrArg (·.2.2.2) (registers_finishCount s.settle) :)
    rw [kept, settle_resetLow, running]
  · rw [exec_tick meets, State.tick_quiet ((nothingReached_iff t).mpr quiet)]
  · simp [State.zone, State.reset, Zone.powerOn, Thresholds.powerOn, noSlots]
  · simp [State.output, State.reset, Output.powerOn]
  · rw [← ownAddressOf_eq]
    rfl
  · rw [← ownAddressOf_eq]
    simp only [exec, execPinResetRelease, low, if_true]
    rfl
  · simp only [exec, execPinReset, high]
    rfl

end Sys2Proof.Machine

/-! SUPPORT. The words the statements share, each as the operation of the model that it spells. -/

namespace Sys2Proof.Machine

open Sys2Proof Slice0

/-! ## Probe entries -/

theorem contribution_of_not_live {e : ProbeEntry} (h : e.state ≠ .live) : e.contribution = none := by
  rw [Option.eq_none_iff_forall_ne_some]
  intro x some
  exact h ((e.contribution_eq_some x).mp some).2.1

/-- A new runtime part with the contribution as it was. -/
theorem updateProbe_same {s : State} {e f : ProbeEntry} (h : e.contribution = f.contribution) :
    s.updateProbe e f = { s with probes := rewritten s.probes f } := if_pos h

/-- A new runtime part that contributes nothing. -/
theorem updateProbe_gone {s : State} {e f : ProbeEntry} (h : f.contribution = none) :
    s.updateProbe e f =
      if e.contribution = none then { s with probes := rewritten s.probes f }
      else State.evaluate { s with probes := rewritten s.probes f } e.load.zone := by
  rcases s.updateProbe_cases e f with ⟨same, written⟩ | ⟨other, evaluated⟩
  · rw [if_pos (same.trans h), written]
    rfl
  · rw [if_neg (h ▸ other), evaluated]
    rfl

/-- One damaged frame counted, by the entry's state and count (R42). -/
theorem countDamage_eq (s : State) (e : ProbeEntry) : s.countDamage e = damageCounted s e := by
  unfold State.countDamage damageCounted
  by_cases faulty : e.state = .faulty
  · rw [if_pos faulty, if_pos faulty]
  · rw [if_neg faulty, if_neg faulty]
    by_cases few : e.damaged < 2
    · rw [if_pos (Nat.succ_lt_succ few), if_pos few]
      exact updateProbe_same rfl
    · rw [if_neg (fun less => few (Nat.lt_of_succ_lt_succ less)), if_neg few]
      rw [updateProbe_gone (contribution_of_not_live (by simp))]

/-- A silence expiry, whole (R41). -/
theorem takeSilence_eq {s : State} {a : Byte} {e : ProbeEntry} (h : s.findProbe a = some e) :
    State.takeSilence a s = silenceTaken s e := by
  unfold State.takeSilence
  simp only [h]
  unfold State.silenceExpiry silenceTaken
  rw [updateProbe_gone (contribution_of_not_live (by simp))]

/-! ## The Intake Classifier -/

theorem removeHead_eq (s : State) (rest : List IntakeFrame) : s.removeHead rest = headGone s rest := by
  unfold State.removeHead headGone
  cases s.fieldAsm <;> rfl

theorem dispose_eq (s : State) (f : Frame) (a : Action) : s.dispose f a = disposed s f a := by cases a <;> rfl

theorem push_eq (s : State) (z : Fin 24) (stamp : Stamp) (result : Option Int) :
    s.push z stamp result = pushed s z stamp result := by
  unfold State.push pushed
  cases result <;> rfl

/-! ## The transmitters -/

theorem start_eq (t : Transmitter) (f : Frame) : t.start f = taking t f := by
  unfold taking
  split
  · next high => exact Transmitter.start_ack high f
  · next low => exact Transmitter.start_clear (by simpa using low) f

theorem startStation_eq (s : State) (f : Frame) : s.startStation f = leaving s f := by
  unfold State.startStation leaving
  rw [start_eq]

/-- An IDLE field transmitter takes the next queued frame (R16, R154). -/
theorem pumpField_idle {s : State} (h : s.fieldTx.sender = .idle) : s.pumpField = fieldNext s := by
  unfold State.pumpField fieldNext
  simp only [Transmitter.isIdle, h, beq_self_eq_true, if_true]
  cases s.fieldOut with
  | nil => rfl
  | cons f rest =>
    dsimp only
    rw [start_eq]
    unfold State.releaseFieldFrame
    cases s.stationAsm with
    | hold r =>
      by_cases fits : r.bytes.getD 1 0 ≠ s.ownAddress ∧ rest.length < 4
      · exact (if_pos fits).trans (if_pos fits).symm
      · exact (if_neg fits).trans (if_neg fits).symm
    | _ => rfl

/-! ## Zones -/

/-- A decision of one change that posts `p` (R126, R127). -/
theorem applyDecision_entered (s : State) (z : Fin 24) (r : Zone) {c : Change} {p : Posting}
    (posts : ∀ n, postEntered z n c = n.post p) (start : c.fromState = (s.zone z).state)
    (read : c.readings = (s.zone z).readings (s.surfaceMin z)) :
    s.applyDecision z { zone := r, changes := [c] } = (entered s z c.toState c.cause r).post p := by
  unfold State.applyDecision entered State.post
  rw [← start, ← read]
  simp only [List.foldl_cons, List.foldl_nil, posts, List.cons_ne_nil, if_false]
  rfl

/-- The one change of a persistence expiry in WATCH (R122). -/
theorem persistenceExpiry_watch {z : Zone} (watch : z.state = .watch) (p : Persistence) (x : Option Int) :
    z.persistenceExpiry p x =
      { zone := { z with state := p.candidate.state, persistence := none }
        changes :=
          [{ fromState := z.state, toState := p.candidate.state, cause := .persistence, readings := z.readings x }] } := by
  have moves : z.state ≠ p.candidate.state := by
    rw [watch]
    cases p.candidate <;> decide
  rcases z.untouched.move_cases p.candidate.state .persistence (z.readings x) with ⟨same, _⟩ | ⟨_, e⟩
  · exact absurd same moves
  · rw [Zone.persistenceExpiry, e]
    rfl

/-- The one change of a blind expiry of a level (R123). -/
theorem blindExpiry_level {z : Zone} (level : z.state.isLevel = true) (x : Option Int) :
    z.blindExpiry x =
      { zone := { z with state := .blind, blind := none, persistence := none }
        changes := [{ fromState := z.state, toState := .blind, cause := .blind, readings := z.readings x }] } := by
  have moves : z.state ≠ .blind := fun blind => by simp [blind, ZoneState.isLevel] at level
  rcases z.untouched.move_cases .blind .blind (z.readings x) with ⟨same, _⟩ | ⟨_, e⟩
  · exact absurd same moves
  · rw [Zone.blindExpiry, e]
    rfl

/-- A persistence expiry of a zone in WATCH, whole (R122). -/
theorem takePersistence_eq {s : State} {z : Fin 24} {p : Persistence} (armed : (s.zone z).persistence = some p)
    (watch : (s.zone z).state = .watch) : State.takePersistence z s = persistenceTaken s z p := by
  unfold State.takePersistence State.persistenceExpiry persistenceTaken
  simp only [armed]
  rw [persistenceExpiry_watch watch, applyDecision_entered s z _ (fun n => ?_) rfl rfl]
  cases p.candidate <;> rfl

/-- A blind expiry of a level, whole (R123). -/
theorem takeBlind_eq {s : State} {z : Fin 24} (level : (s.zone z).state.isLevel = true) :
    State.takeBlind z s = blindTaken s z := by
  unfold State.takeBlind State.blindExpiry blindTaken
  rw [blindExpiry_level level, applyDecision_entered (p := .blind z) s z _ (fun _ => rfl) rfl rfl]

/-! ## Wet inputs and outputs -/

theorem flag_spelled (s : State) (z : Fin 24) :
    (s.wetInputs.toList.any fun x => x.zone == some z && (x.state == .wet || x.state == .toDry)) = s.wetFlag z := by
  unfold State.wetFlag
  congr 1
  funext x
  cases x.state <;> rfl

/-- The flag of the zone an input is mapped to is rewritten, with an evaluation if that changed it (R137). -/
theorem recomputeFlags_mapped (s : State) (zone : Option (Fin 24)) :
    s.recomputeFlags zone.toList =
      match zone with
      | none => s
      | some z =>
        if s.wetFlag z = (s.zone z).wet then s
        else State.evaluate (s.setZone z { s.zone z with wet := s.wetFlag z }) z := by
  cases zone with
  | none => rfl
  | some z =>
    by_cases same : s.wetFlag z = (s.zone z).wet
    · simp [State.recomputeFlags, same]
    · simp [State.recomputeFlags, same, State.writeWetFlag]

theorem takeQualification_eq {s : State} {i : Fin 4}
    (turning : (s.wetInput i).state = .toWet ∨ (s.wetInput i).state = .toDry) :
    State.takeQualification i s = qualificationTaken s i := by
  unfold State.takeQualification State.qualificationExpiry qualificationTaken
  simp only [recomputeFlags_mapped, flag_spelled]
  rcases turning with h | h <;> cases (s.wetInput i).selection <;> simp [h, Selection.matches] <;> rfl

/-- A period begun from `base` (R142). -/
theorem periodBoundary_eq (s : State) (i : Fin 4) (base : Stamp) :
    s.periodBoundary i base = s.setOutput i (begun s base (s.output i)) := rfl

end Sys2Proof.Machine

/-! SUPPORT. The receive pairs: what a symbol does in each state of an assembler, and what a completed frame comes to: O8 to
O12. -/

namespace Sys2Proof.Machine

open Sys2Proof Slice0

/-! ## A symbol in each state of an assembler (R4 to R9) -/

section Symbols

variable {w : Symbol} {r : FrameRecord} {n : Nat} {keep : Bool}

theorem not_marked (unmarked : w.getLsbD 8 = false) : ¬ symbolMarked w = true := by
  rw [symbolMarked, unmarked]
  decide

theorem arrive_idle_marked (marked : w.getLsbD 8 = true) :
    Assembler.idle.arrive keep w = .quiet (.receiving (freshRecord w)) := if_pos marked

theorem arrive_idle_unmarked (unmarked : w.getLsbD 8 = false) : Assembler.idle.arrive keep w = .faulty .stray .idle :=
  if_neg (not_marked unmarked)

theorem arrive_hunt_marked (marked : w.getLsbD 8 = true) :
    Assembler.hunt.arrive keep w = .quiet (.receiving (freshRecord w)) := if_pos marked

theorem arrive_hunt_unmarked (unmarked : w.getLsbD 8 = false) : Assembler.hunt.arrive keep w = .quiet .hunt :=
  if_neg (not_marked unmarked)

theorem arrive_truncates (marked : w.getLsbD 8 = true) :
    (Assembler.receiving r).arrive keep w = .faulty .truncated (.receiving (freshRecord w)) := if_pos marked

theorem arrive_continues (unmarked : w.getLsbD 8 = false) :
    (Assembler.receiving r).arrive keep w = continueFrame keep r w := if_neg (not_marked unmarked)

theorem arrive_address (unmarked : w.getLsbD 8 = false) (second : r.bytes.length = 1) :
    (Assembler.receiving r).arrive keep w =
      .quiet (.receiving { extended r w with addrParity := if keep then some (goodParity w) else none }) := by
  rw [arrive_continues unmarked, continueFrame]
  simp only [second]
  rfl

theorem arrive_length (unmarked : w.getLsbD 8 = false) (third : r.bytes.length = 2) (fits : (w.extractLsb' 0 8).toNat ≤ 60) :
    (Assembler.receiving r).arrive keep w =
      .quiet (.receiving { extended r w with len := some (w.extractLsb' 0 8).toNat }) := by
  rw [arrive_continues unmarked, continueFrame]
  simp only [third]
  exact if_pos fits

theorem arrive_overlength (unmarked : w.getLsbD 8 = false) (third : r.bytes.length = 2)
    (long : 60 < (w.extractLsb' 0 8).toNat) : (Assembler.receiving r).arrive keep w = .faulty .overlength .hunt := by
  rw [arrive_continues unmarked, continueFrame]
  simp only [third]
  exact if_neg (Nat.not_le_of_lt long)

theorem arrive_middle (unmarked : w.getLsbD 8 = false) (len : r.len = some n) (from3 : 3 ≤ r.bytes.length)
    (before : r.bytes.length < n + 3) :
    (Assembler.receiving r).arrive keep w = .quiet (.receiving (extended r w)) := by
  rw [arrive_continues unmarked, continueFrame_middle len from3, if_neg (Nat.ne_of_lt before)]
  rfl

theorem arrive_last (unmarked : w.getLsbD 8 = false) (len : r.len = some n) (last : r.bytes.length = n + 3) :
    (Assembler.receiving r).arrive keep w = .complete (extended r w) := by
  rw [arrive_continues unmarked, continueFrame_middle len (by omega), if_pos last]
  rfl

end Symbols

/-! ## The judgement of a completed frame (R9) -/

section Judge

variable {r : FrameRecord}

theorem judge_damaged (h : r.damaged = true) : r.judge = .damaged := if_pos h

theorem judge_checkFailed (whole : r.damaged = false) (sum : r.bytes.foldl (· + ·) 0 ≠ 0) : r.judge = .checkFailed := by
  rw [FrameRecord.judge, if_neg (by simp [whole])]
  exact if_neg sum

theorem judge_good (whole : r.damaged = false) (sum : r.bytes.foldl (· + ·) 0 = 0) : r.judge = .good := by
  rw [FrameRecord.judge, if_neg (by simp [whole])]
  exact if_pos sum

end Judge

theorem ready_of_low {r : Receiver} (strobe : r.strobe = false) (ack : r.ack = false) : r.ready = true := by
  simp [Receiver.ready, strobe, ack]

/-! ## The field receive pair -/

theorem exec_fieldSymbolArrival {s t : State} (h : s.meets t) (w : Symbol) :
    exec (.fieldSymbolArrival w) s = .next (State.fieldArrival w t) :=
  pinEvent_meets h (fun u => { u with fieldRx := u.fieldRx.rise }) (State.fieldArrival w)

theorem exec_fieldTimeout {s t : State} (h : s.meets t) : exec .fieldInterSymbolTimeout s = .next t.fieldTimeout :=
  event_meets h State.fieldTimeout

section FieldPair

variable {s t : State} (h : s.meets t) (strobe : t.fieldRx.strobe = false) (ack : t.fieldRx.ack = false)
  {a b : Assembler} (asm : t.fieldAsm = a) (free : a.holding = false) {w : Symbol}
include h strobe ack asm free

/-- A sampled field symbol is handled as its arrival says (R4 to R9). -/
theorem fieldSymbol_sampled :
    exec (.fieldSymbolArrival w) s =
      .next
        (match a.arrive true w with
          | .quiet b => fieldAfter t b
          | .faulty d b => (fieldAfter t b).post (.line d.field)
          | .complete r => (State.fieldComplete { t with fieldRx := t.fieldRx.rise } r).arbitrate) := by
  subst asm
  rw [exec_fieldSymbolArrival h]
  congr 1
  unfold State.fieldArrival
  simp only [ready_of_low strobe ack, free, Bool.not_false, Bool.and_self, if_true]
  generalize t.fieldAsm.arrive true w = arrival
  cases arrival <;> rfl

theorem fieldSymbol_quiet (e : a.arrive true w = .quiet b) :
    exec (.fieldSymbolArrival w) s = .next (fieldAfter t b) := by
  rw [fieldSymbol_sampled h strobe ack asm free, e]

theorem fieldSymbol_faulty {d : Defect} (e : a.arrive true w = .faulty d b) :
    exec (.fieldSymbolArrival w) s = .next ((fieldAfter t b).post (.line d.field)) := by
  rw [fieldSymbol_sampled h strobe ack asm free, e]

theorem fieldSymbol_complete {r : FrameRecord} (e : a.arrive true w = .complete r) :
    exec (.fieldSymbolArrival w) s = .next (State.fieldComplete { t with fieldRx := t.fieldRx.rise } r).arbitrate := by
  rw [fieldSymbol_sampled h strobe ack asm free, e]

end FieldPair

/-- Settles O8: each clause is the arrival of its symbol in its state of the assembler. -/
theorem fieldSymbolsBuildFrames : Obligations.FieldSymbolsBuildFrames := by
  unfold Obligations.FieldSymbolsBuildFrames
  intro s t w h strobe ack
  refine ⟨fun asm marked => ?_, fun asm unmarked => ?_, fun asm marked => ?_, fun asm unmarked => ?_, fun r asm =>
    ⟨fun marked => ?_, fun unmarked second => ?_, fun unmarked third fits => ?_, fun unmarked third long => ?_,
      fun n unmarked len from3 before => ?_⟩⟩
  · exact fieldSymbol_quiet h strobe ack asm rfl (arrive_idle_marked marked)
  · exact fieldSymbol_faulty h strobe ack asm rfl (arrive_idle_unmarked unmarked)
  · exact fieldSymbol_quiet h strobe ack asm rfl (arrive_hunt_marked marked)
  · exact fieldSymbol_quiet h strobe ack asm rfl (arrive_hunt_unmarked unmarked)
  · exact fieldSymbol_faulty h strobe ack asm rfl (arrive_truncates marked)
  · exact fieldSymbol_quiet h strobe ack asm rfl (arrive_address unmarked second)
  · exact fieldSymbol_quiet h strobe ack asm rfl (arrive_length unmarked third fits)
  · exact fieldSymbol_faulty h strobe ack asm rfl (arrive_overlength unmarked third long)
  · exact fieldSymbol_quiet h strobe ack asm rfl (arrive_middle unmarked len from3 before)

/-! ## A completed field frame (R9 to R11) -/

/-- A damaged-frame report counts against the tabled entry, and against none if there is none (R42). -/
theorem damagedReport_eq (s : State) (a : Byte) :
    s.damagedReport a =
      match s.findProbe a with
      | some e => damageCounted s e
      | none => s := by
  unfold State.damagedReport
  split <;> simp only [*, countDamage_eq]

/-- A discarded frame posts its fault, and reports its damage when its address symbol was good (R9, R10). -/
theorem fieldDiscard_eq (t : State) (r : FrameRecord) (d : Defect) :
    State.fieldDiscard { t with fieldRx := t.fieldRx.rise } r d =
      match t.findProbe (r.bytes.getD 1 0) with
      | some e =>
        if r.addrParity = some true then damageCounted ((fieldAfter t .idle).post (.line d.field)) e
        else (fieldAfter t .idle).post (.line d.field)
      | none => (fieldAfter t .idle).post (.line d.field) := by
  have taken : State.fieldTaken { t with fieldRx := t.fieldRx.rise } .idle = fieldAfter t .idle := rfl
  have found (p : Posting) : ((fieldAfter t .idle).post p).findProbe (frameAddress r.bytes) =
    t.findProbe (r.bytes.getD 1 0) := rfl
  unfold State.fieldDiscard
  simp only [taken, State.postLine, damagedReport_eq, found]
  by_cases good : r.addrParity = some true
  · simp only [good, if_true]
  · simp only [good, if_false]
    split <;> rfl

/-- Settles O10: the judgement decides, and room in the intake queue for a good frame. -/
theorem fieldFrameCompletes : Obligations.FieldFrameCompletes := by
  unfold Obligations.FieldFrameCompletes
  intro s t w r n h strobe ack asm unmarked len last
  have completes := fieldSymbol_complete h strobe ack asm rfl (arrive_last unmarked len last)
  rw [completes]
  unfold State.fieldComplete
  refine ⟨fun damaged => ?_, fun whole sum => ?_, fun whole sum room => ?_, fun whole sum full => ?_⟩
  · rw [judge_damaged damaged]
    simp only [fieldDiscard_eq]
    rfl
  · rw [judge_checkFailed whole sum]
    simp only [fieldDiscard_eq]
    rfl
  · rw [judge_good whole sum]
    simp only [State.fieldGood]
    rw [if_pos room]
    rfl
  · rw [judge_good whole sum]
    simp only [State.fieldGood]
    rw [if_neg (Nat.not_lt_of_le full)]
    simp only [Receiver.rise, ack]
    rfl

/-! ## The station receive pair -/

theorem exec_stationSymbolArrival {s t : State} (h : s.meets t) (w : Symbol) :
    exec (.stationSymbolArrival w) s = .next (State.stationArrival w t) :=
  pinEvent_meets h (fun u => { u with stationRx := u.stationRx.rise }) (State.stationArrival w)

theorem exec_stationTimeout {s t : State} (h : s.meets t) :
    exec .stationInterSymbolTimeout s = .next t.stationTimeout := event_meets h State.stationTimeout

section StationPair

variable {s t : State} (h : s.meets t) (strobe : t.stationRx.strobe = false) (ack : t.stationRx.ack = false)
  {a b : Assembler} (asm : t.stationAsm = a) (free : a.holding = false) {w : Symbol}
include h strobe ack asm free

/-- A sampled station symbol is handled as its arrival says (R151). -/
theorem stationSymbol_sampled :
    exec (.stationSymbolArrival w) s =
      .next
        (match a.arrive false w with
          | .quiet b => stationAfter t b
          | .faulty d b => (stationAfter t b).post (.line d.station)
          | .complete r => (State.stationComplete { t with stationRx := t.stationRx.rise } r).arbitrate) := by
  subst asm
  rw [exec_stationSymbolArrival h]
  congr 1
  unfold State.stationArrival
  simp only [ready_of_low strobe ack, free, Bool.not_false, Bool.and_self, if_true]
  generalize t.stationAsm.arrive false w = arrival
  cases arrival <;> rfl

theorem stationSymbol_quiet (e : a.arrive false w = .quiet b) :
    exec (.stationSymbolArrival w) s = .next (stationAfter t b) := by
  rw [stationSymbol_sampled h strobe ack asm free, e]

theorem stationSymbol_faulty {d : Defect} (e : a.arrive false w = .faulty d b) :
    exec (.stationSymbolArrival w) s = .next ((stationAfter t b).post (.line d.station)) := by
  rw [stationSymbol_sampled h strobe ack asm free, e]

theorem stationSymbol_complete {r : FrameRecord} (e : a.arrive false w = .complete r) :
    exec (.stationSymbolArrival w) s =
      .next (State.stationComplete { t with stationRx := t.stationRx.rise } r).arbitrate := by
  rw [stationSymbol_sampled h strobe ack asm free, e]

end StationPair

/-- Settles O9: as on the field line, with the address-parity indication left out. -/
theorem stationSymbolsBuildFrames : Obligations.StationSymbolsBuildFrames := by
  unfold Obligations.StationSymbolsBuildFrames
  intro s t w h strobe ack
  refine ⟨fun asm marked => ?_, fun asm unmarked => ?_, fun asm marked => ?_, fun asm unmarked => ?_, fun r asm =>
    ⟨fun marked => ?_, fun unmarked second => ?_, fun unmarked third fits => ?_, fun unmarked third long => ?_,
      fun n unmarked len from3 before => ?_⟩⟩
  · exact stationSymbol_quiet h strobe ack asm rfl (arrive_idle_marked marked)
  · exact stationSymbol_faulty h strobe ack asm rfl (arrive_idle_unmarked unmarked)
  · exact stationSymbol_quiet h strobe ack asm rfl (arrive_hunt_marked marked)
  · exact stationSymbol_quiet h strobe ack asm rfl (arrive_hunt_unmarked unmarked)
  · exact stationSymbol_faulty h strobe ack asm rfl (arrive_truncates marked)
  · exact stationSymbol_quiet h strobe ack asm rfl (arrive_address unmarked second)
  · exact stationSymbol_quiet h strobe ack asm rfl (arrive_length unmarked third fits)
  · exact stationSymbol_faulty h strobe ack asm rfl (arrive_overlength unmarked third long)
  · exact stationSymbol_quiet h strobe ack asm rfl (arrive_middle unmarked len from3 before)

/-! ## A completed station frame (R152 to R154) -/

section Dispatch

variable {t : State} {r : FrameRecord}

theorem dispatch_command (own : frameAddress r.bytes = t.ownAddress) (command : frameKind r.bytes = kindCommand)
    (empty : t.response = none) : t.dispatch r = t.stationDone.runCommand (framePayload r.bytes) := by
  rw [State.dispatch, if_pos own, if_pos command, if_pos empty]

theorem dispatch_held (own : frameAddress r.bytes = t.ownAddress) (command : frameKind r.bytes = kindCommand)
    (full : t.response ≠ none) : t.dispatch r = { t with stationAsm := .hold r } := by
  rw [State.dispatch, if_pos own, if_pos command, if_neg full]

theorem dispatch_stray (own : frameAddress r.bytes = t.ownAddress) (other : ¬ frameKind r.bytes = kindCommand) :
    t.dispatch r = t.stationDone.postLine .stationStray := by
  rw [State.dispatch, if_pos own, if_neg other]

theorem dispatch_field (foreign : ¬ frameAddress r.bytes = t.ownAddress) (room : t.fieldOut.length < 4) :
    t.dispatch r = State.pumpField { t.stationDone with fieldOut := t.fieldOut ++ [r.bytes] } := by
  rw [State.dispatch, if_neg foreign]
  exact if_pos room

theorem dispatch_fieldFull (foreign : ¬ frameAddress r.bytes = t.ownAddress) (full : 4 ≤ t.fieldOut.length) :
    t.dispatch r = { t with stationAsm := .hold r } := by
  rw [State.dispatch, if_neg foreign]
  exact if_neg (Nat.not_lt_of_le full)

end Dispatch

/-- The only frame of the field-out queue goes to an IDLE transmitter at once (R16). -/
theorem pumpField_alone {u : State} (idle : u.fieldTx.sender = .idle) (empty : u.fieldOut = []) (asm : u.stationAsm = .idle)
    (f : Frame) :
    State.pumpField { u with fieldOut := u.fieldOut ++ [f] } = { u with fieldTx := taking u.fieldTx f } := by
  refine (pumpField_idle (s := { u with fieldOut := u.fieldOut ++ [f] }) idle).trans ?_
  simp only [fieldNext, empty, List.nil_append, asm]

/-- Settles O11: the judgement decides, then the address, the kind and the room for the frame. -/
theorem stationFrameCompletes : Obligations.StationFrameCompletes := by
  unfold Obligations.StationFrameCompletes
  intro s t w r n h strobe ack asm unmarked len last
  have completes := stationSymbol_complete h strobe ack asm rfl (arrive_last unmarked len last)
  rw [completes]
  have done : State.stationDone { t with stationRx := t.stationRx.rise } = stationAfter t .idle := rfl
  have holds : ({ t with stationRx := t.stationRx.rise, stationAsm := .hold (extended r w) } : State) =
      { t with stationAsm := .hold (extended r w), stationRx := { strobe := true, ack := false } } := by
    rw [← ack]
    rfl
  unfold State.stationComplete
  refine ⟨fun damaged => ?_, fun whole sum => ?_, fun whole sum => ?_⟩
  · rw [judge_damaged damaged]
    rfl
  · rw [judge_checkFailed whole sum]
    rfl
  · rw [judge_good whole sum]
    refine ⟨fun own command empty => ?_, fun own command full => ?_, fun own other => ?_, fun foreign room idle none => ?_,
      fun foreign room busy => ?_, fun foreign full => ?_⟩
    · simp only [dispatch_command (t := { t with stationRx := t.stationRx.rise }) own command empty, done]
      rfl
    · simp only [dispatch_held (t := { t with stationRx := t.stationRx.rise }) own command
        (Option.isSome_iff_ne_none.mp full), holds]
    · simp only [dispatch_stray (t := { t with stationRx := t.stationRx.rise }) own other, done]
      rfl
    · simp only [dispatch_field (t := { t with stationRx := t.stationRx.rise }) foreign room, done]
      exact congrArg (fun u => Host.Outcome.next (State.arbitrate u))
        (pumpField_alone (u := stationAfter t .idle) idle none rfl _)
    · simp only [dispatch_field (t := { t with stationRx := t.stationRx.rise }) foreign room, done]
      rw [State.pumpField_busy (s := { stationAfter t .idle with fieldOut := _ }) busy]
    · simp only [dispatch_fieldFull (t := { t with stationRx := t.stationRx.rise }) foreign full, holds]

/-! ## Strobe falls, timeouts, and strobes that are not sampled -/

theorem not_sampled {r : Receiver} {a : Assembler} (h : r.strobe = true ∨ r.ack = true ∨ a.holding = true) :
    (r.ready && !a.holding) = false := by
  rcases h with h | h | h <;> simp [Receiver.ready, h]

theorem timerRunning_eq_false {a : Assembler} (h : ∀ r, a ≠ .receiving r) : a.timerRunning = false := by
  cases a with
  | receiving r => exact absurd rfl (h r)
  | _ => rfl

/-- Settles O12: the falls, the timeouts by the state of their assembler, and the strobes that meet no ready pair. -/
theorem strobeFallsAndTimeouts : Obligations.StrobeFallsAndTimeouts := by
  unfold Obligations.StrobeFallsAndTimeouts
  intro s t h
  refine ⟨pinEvent_meets h _ State.fieldStrobeFall, pinEvent_meets h _ State.stationStrobeFall,
    fun r asm => ?_, fun r asm => ?_, fun idle => ?_, fun idle => ?_,
    fun w unready => ?_, fun w unready => ?_⟩
  · rw [exec_fieldTimeout h, State.fieldTimeout, asm]
    rfl
  · rw [exec_stationTimeout h, State.stationTimeout, asm]
    rfl
  · rw [exec_fieldTimeout h, State.fieldTimeout, timerRunning_eq_false idle]
    rfl
  · rw [exec_stationTimeout h, State.stationTimeout, timerRunning_eq_false idle]
    rfl
  · rw [exec_fieldSymbolArrival h]
    simp only [State.fieldArrival, not_sampled unready]
    rfl
  · rw [exec_stationSymbolArrival h]
    simp only [State.stationArrival, not_sampled unready]
    rfl

end Sys2Proof.Machine

/-! SUPPORT. The transmit pairs, outgoing frames, the uplink arbiter and the verdict queue: O13 to O16 and O51. -/

namespace Sys2Proof.Machine

open Sys2Proof Slice0

/-! ## A transmit pair (R17, R18) -/

section Pair

variable {tx : Transmitter} {f : Frame} {p : Nat}

/-- The acknowledge of a symbol before the last goes on to the next. -/
theorem ackRise_goesOn (sending : tx.sender = .sending f p) (high : tx.strobe = true) (low : tx.ack = false)
    (own : tx.owed = false) (more : p < f.length) : tx.ackRise = acknowledged tx (.sending f (p + 1)) := by
  rw [Transmitter.ackRise_presented sending high low own, if_pos more]
  rfl

/-- The acknowledge of the last symbol returns to IDLE. -/
theorem ackRise_ends (sending : tx.sender = .sending f p) (high : tx.strobe = true) (low : tx.ack = false)
    (own : tx.owed = false) (last : f.length ≤ p) : tx.ackRise = acknowledged tx .idle := by
  rw [Transmitter.ackRise_presented sending high low own, if_neg (Nat.not_lt_of_le last)]
  rfl

/-- In IDLE the acknowledge rises for no symbol, and an owed one is paid with it. -/
theorem ackRise_idle (idle : tx.sender = .idle) (low : tx.ack = false) :
    tx.ackRise = { tx with ack := true, owed := false } := by
  cases owed : tx.owed with
  | true => exact Transmitter.ackRise_owed low owed
  | false =>
    simp only [Transmitter.ackRise, low, owed, idle]
    rfl

/-- In IDLE with nothing owed the acknowledge rises, or stands high already. -/
theorem ackRise_idle_unowed (idle : tx.sender = .idle) (own : tx.owed = false) : tx.ackRise = { tx with ack := true } := by
  cases ack : tx.ack with
  | true => rw [Transmitter.ackRise, if_pos ack, ← ack]
  | false => rw [ackRise_idle idle ack, ← own]

/-- With no symbol waiting the acknowledge falls for none. -/
theorem ackFall_none (h : tx.sender = .idle ∨ tx.strobe = true) : tx.ackFall = { tx with ack := false } := by
  unfold Transmitter.ackFall Transmitter.present
  rcases h with idle | high
  · simp only [idle]
  · cases sender : tx.sender <;> simp [high]

theorem allowanceRunning_iff (tx : Transmitter) : tx.allowanceRunning = true ↔ tx.sender ≠ .idle := by
  simp [Transmitter.allowanceRunning, Transmitter.isIdle]

end Pair

/-- A posting beside the field transmitter's queue. -/
theorem fieldNext_post (u : State) (p : Posting) : fieldNext (u.post p) = (fieldNext u).post p := by
  cases out : u.fieldOut with
  | nil => simp only [fieldNext, State.post_fieldOut, out]
  | cons g rest =>
    cases asm : u.stationAsm with
    | hold r =>
      simp only [fieldNext, State.post_fieldOut, State.post_stationAsm, out, asm]
      by_cases fits : r.bytes.getD 1 0 ≠ u.ownAddress ∧ rest.length < 4
      · rw [if_pos fits]
        exact if_pos fits
      · rw [if_neg fits]
        exact if_neg fits
    | _ =>
      simp only [fieldNext, State.post_fieldOut, State.post_stationAsm, out, asm]
      rfl

section FieldLine

variable {s t : State} (h : s.meets t)
include h

theorem exec_fieldAcknowledged :
    exec .fieldSymbolAcknowledged s = .next (State.pumpField { t with fieldTx := t.fieldTx.ackRise }) :=
  pinEvent_meets h (fun u => { u with fieldTx := { u.fieldTx with ack := true } }) State.fieldAckRise

theorem exec_fieldAckFall : exec .fieldTransmitAckFall s = .next { t with fieldTx := t.fieldTx.ackFall } :=
  pinEvent_meets h (fun u => { u with fieldTx := { u.fieldTx with ack := false } }) State.fieldAckFall

theorem exec_fieldAllowance : exec .fieldAllowanceExpiry s = .next t.fieldAllowance := event_meets h State.fieldAllowance

end FieldLine

/-- Settles O13: the pair by the state it is in, and the queue as `pumpField` takes it. -/
theorem fieldTransmitterSends : Obligations.FieldTransmitterSends := by
  unfold Obligations.FieldTransmitterSends
  intro s t h
  refine ⟨fun f p sending high low own => ⟨fun more => ?_, fun last => ?_⟩, fun owed low quiet => ?_,
    fun f p sending low => ?_, fun none => ?_, fun busy => ?_, fun idle empty own => ?_, fun idle => ?_⟩
  · rw [exec_fieldAcknowledged h, ackRise_goesOn sending high low own more, State.pumpField_busy]
    simp [acknowledged]
  · rw [exec_fieldAcknowledged h, ackRise_ends sending high low own last, pumpField_idle rfl]
  · rw [exec_fieldAcknowledged h, Transmitter.ackRise_owed low owed]
    rcases quiet with busy | empty
    · rw [State.pumpField_busy]
      exact busy
    · rw [State.pumpField_empty]
      exact empty
  · rw [exec_fieldAckFall h, Transmitter.ackFall_waiting sending low]
  · rw [exec_fieldAckFall h, ackFall_none none]
  · rw [exec_fieldAllowance h, State.fieldAllowance, if_pos ((allowanceRunning_iff _).mpr busy), pumpField_idle]
    · exact congrArg _ (fieldNext_post _ _)
    · rfl
  · rw [exec_fieldAcknowledged h, ackRise_idle_unowed idle own, State.pumpField_empty]
    exact empty
  · rw [exec_fieldAllowance h, State.fieldAllowance, if_neg (fun running => (allowanceRunning_iff _).mp running idle)]

section StationLine

variable {s t : State} (h : s.meets t)
include h

theorem exec_stationAcknowledged :
    exec .stationSymbolAcknowledged s = .next (State.arbitrate { t with stationTx := t.stationTx.ackRise }) :=
  pinEvent_meets h (fun u => { u with stationTx := { u.stationTx with ack := true } }) State.stationAckRise

theorem exec_stationAckFall : exec .stationTransmitAckFall s = .next { t with stationTx := t.stationTx.ackFall } :=
  pinEvent_meets h (fun u => { u with stationTx := { u.stationTx with ack := false } }) State.stationAckFall

theorem exec_stationAllowance : exec .stationAllowanceExpiry s = .next t.stationAllowance :=
  event_meets h State.stationAllowance

end StationLine

/-- Settles O14: the pair by the state it is in, and the arbiter at each return to IDLE. -/
theorem stationTransmitterSends : Obligations.StationTransmitterSends := by
  unfold Obligations.StationTransmitterSends
  intro s t h
  refine ⟨fun f p sending high low own => ⟨fun more => ?_, fun last => ?_⟩, fun owed low busy => ?_, fun low idle => ?_,
    fun f p sending low => ?_, fun none => ?_, fun busy => ?_, fun idle => ?_⟩
  · rw [exec_stationAcknowledged h, ackRise_goesOn sending high low own more, State.arbitrate_busy]
    simp [acknowledged]
  · rw [exec_stationAcknowledged h, ackRise_ends sending high low own last]
  · rw [exec_stationAcknowledged h, Transmitter.ackRise_owed low owed, State.arbitrate_busy]
    exact busy
  · rw [exec_stationAcknowledged h, ackRise_idle idle low]
  · rw [exec_stationAckFall h, Transmitter.ackFall_waiting sending low]
  · rw [exec_stationAckFall h, ackFall_none none]
  · rw [exec_stationAllowance h, State.stationAllowance, if_pos ((allowanceRunning_iff _).mpr busy)]
    rfl
  · rw [exec_stationAllowance h, State.stationAllowance, if_neg (fun running => (allowanceRunning_iff _).mp running idle)]

/-! ## The attention state (R181) -/

section Attention

variable (n : NoticeSets)

theorem top_lt : n.top < 8 := by
  unfold NoticeSets.top
  split_ifs <;> omega

theorem attention_iff : n.attention = true ↔ ∃ c, kindPending n c = true := by
  simp only [NoticeSets.attention, Bool.or_eq_true]
  constructor
  · rintro ((((((h | h) | h) | h) | h) | h) | h)
    exacts [⟨1, h⟩, ⟨2, h⟩, ⟨3, h⟩, ⟨4, h⟩, ⟨5, h⟩, ⟨6, h⟩, ⟨7, h⟩]
  · rintro ⟨c, h⟩
    unfold kindPending at h
    split at h <;> simp_all

theorem top_of_none (h : ∀ c, kindPending n c = false) : n.top = 0 := by
  have h1 := h 1
  have h2 := h 2
  have h3 := h 3
  have h4 := h 4
  have h5 := h 5
  have h6 := h 6
  have h7 := h 7
  simp_all [kindPending, NoticeSets.top]

/-- The pending kind of lowest code is the top notice. -/
theorem top_of_lowest {c : Nat} (h : kindPending n c = true) (low : ∀ d < c, kindPending n d = false) : n.top = c := by
  have l1 := low 1
  have l2 := low 2
  have l3 := low 3
  have l4 := low 4
  have l5 := low 5
  have l6 := low 6
  unfold kindPending at h
  split at h <;> simp_all [kindPending, NoticeSets.top]

end Attention

/-! ## A marked frame (R159) -/

theorem frameSum_withCheck (f : List Byte) : (withCheck f).foldl (· + ·) 0 = 0 := by
  simp [withCheck, checkByte, frameSum]

theorem markFrame_cons (n : NoticeSets) (kind : Byte) (rest : List Byte) :
    markFrame n (kind :: rest) =
      withCheck (BitVec.ofNat 8 (16 * (kind.toNat / 16) + 8 * n.attention.toNat + n.top) :: rest.dropLast) := rfl

theorem withCheck_cons_drop (k : Byte) (rest : List Byte) : ((withCheck (k :: rest)).drop 1).dropLast = rest := by
  simp [withCheck]

section KindByte

variable (kind : Byte) {top : Nat} (small : top < 8) (attention : Bool)
include small

theorem kindByte_upper :
    (BitVec.ofNat 8 (16 * (kind.toNat / 16) + 8 * attention.toNat + top)).extractLsb' 4 4 = kind.extractLsb' 4 4 := by
  have one := attention.toNat_le
  apply BitVec.eq_of_toNat_eq
  simp only [BitVec.extractLsb'_toNat, BitVec.toNat_ofNat, Nat.shiftRight_eq_div_pow]
  omega

theorem kindByte_top :
    ((BitVec.ofNat 8 (16 * (kind.toNat / 16) + 8 * attention.toNat + top)).extractLsb' 0 3).toNat = top := by
  simp only [BitVec.extractLsb'_toNat, BitVec.toNat_ofNat, Nat.shiftRight_eq_div_pow]
  omega

theorem kindByte_mark :
    (BitVec.ofNat 8 (16 * (kind.toNat / 16) + 8 * attention.toNat + top)).getLsbD 3 = attention := by
  rw [BitVec.getLsbD_ofNat, Nat.testBit_eq_decide_div_mod_eq]
  cases attention <;> simp <;> omega

end KindByte

/-! ## A symbol as sent (R1) -/

/-- The ten bits of a symbol before its parity is made odd. -/
def bareSymbol (b : Byte) (first : Bool) : Symbol := (BitVec.ofBool first ++ b).zeroExtend 10

theorem mkSymbol_eq (b : Byte) (first : Bool) :
    mkSymbol b first =
      if goodParity (bareSymbol b first) then bareSymbol b first else bareSymbol b first ||| BitVec.twoPow 10 9 := rfl

/-- Data in bits 0 to 7, the marker in bit 8. -/
theorem getLsbD_bareSymbol (b : Byte) (first : Bool) (i : Nat) :
    (bareSymbol b first).getLsbD i = if i < 8 then b.getLsbD i else decide (i = 8) && first := by
  simp only [bareSymbol, BitVec.getLsbD_setWidth, BitVec.getLsbD_append, BitVec.getLsbD_ofBool]
  by_cases data : i < 8
  · simp [data]
    omega
  · by_cases marker : i = 8
    · simp [marker]
    · simp [data, marker]
      omega

theorem bareSymbol_parityBit (b : Byte) (first : Bool) : (bareSymbol b first).getLsbD 9 = false := by
  rw [getLsbD_bareSymbol]
  rfl

theorem bareSymbol_data (b : Byte) (first : Bool) : (bareSymbol b first).extractLsb' 0 8 = b := by
  refine BitVec.eq_of_getLsbD_eq fun i small => ?_
  rw [BitVec.getLsbD_extractLsb', Nat.zero_add, getLsbD_bareSymbol, if_pos small]
  simp [small]

theorem bareSymbol_marker (b : Byte) (first : Bool) : (bareSymbol b first).getLsbD 8 = first := by
  rw [getLsbD_bareSymbol]
  rfl

/-- The parity bit is one more one. -/
theorem ones_parity {w : Symbol} (clear : w.getLsbD 9 = false) : ones (w ||| BitVec.twoPow 10 9) = ones w + 1 := by
  have low : w[9] = false := clear
  simp [ones, List.range_succ, low]
  omega

theorem mkSymbol_goodParity (b : Byte) (first : Bool) : goodParity (mkSymbol b first) = true := by
  rw [mkSymbol_eq]
  split
  · next good => exact good
  · next bad =>
    simp only [goodParity, beq_iff_eq, ones_parity (bareSymbol_parityBit b first)] at bad ⊢
    omega

/-- The parity bit stands beside data and marker. -/
theorem getLsbD_mkSymbol {i : Nat} (below : i < 9) (b : Byte) (first : Bool) :
    (mkSymbol b first).getLsbD i = (bareSymbol b first).getLsbD i := by
  rw [mkSymbol_eq]
  split
  · rfl
  · simp [BitVec.getLsbD_twoPow]
    omega

/-- Settles O15: the kind byte in whole numbers, and the parity bit as one more one. -/
theorem outgoingFramesAreMarked : Obligations.OutgoingFramesAreMarked := by
  unfold Obligations.OutgoingFramesAreMarked
  refine ⟨fun n kind rest nonempty => ?_, fun b first => ⟨mkSymbol_goodParity b first, ?_, ?_⟩⟩
  · simp only [markFrame_cons]
    have small := top_lt n
    refine ⟨frameSum_withCheck _, ?_, withCheck_cons_drop _ _, kindByte_upper kind small n.attention, ?_, fun none => ?_,
      fun c pending low => ?_⟩
    · have := List.length_pos_iff.mpr nonempty
      simp [withCheck]
      omega
    · rw [← attention_iff, ← Bool.eq_iff_iff]
      exact kindByte_mark kind small n.attention
    · apply BitVec.eq_of_toNat_eq
      exact (kindByte_top kind small n.attention).trans (top_of_none n none)
    · exact (kindByte_top kind small n.attention).trans (top_of_lowest n pending low)
  · rw [← bareSymbol_data b first]
    refine BitVec.eq_of_getLsbD_eq fun i small => ?_
    simp only [BitVec.getLsbD_extractLsb', small, decide_true, Bool.true_and]
    rw [getLsbD_mkSymbol (by omega), bareSymbol_data]
  · rw [getLsbD_mkSymbol (by omega), bareSymbol_marker]

/-! ## The uplink arbiter (R158, R159) -/

section Arbiter

variable {u : State}

theorem choose_response {f : Frame} (waiting : u.response = some f) :
    u.choose = (leaving { u with response := none, verdictRun := 0 } f).releaseCommand := by
  rw [State.choose, waiting]
  exact congrArg State.releaseCommand (startStation_eq _ f)

theorem choose_verdict {v : Verdict} {rest : List Verdict} (silent : u.response = none) (waiting : u.verdicts = v :: rest)
    (turn : u.verdictRun < 4 ∨ u.forward = []) :
    u.choose =
      leaving { u with verdicts := rest, verdictRun := min 4 (u.verdictRun + 1) } (verdictFrame u.ownAddress v) := by
  rw [State.choose, silent, waiting]
  exact (if_pos turn).trans (startStation_eq _ _)

theorem sendForwarded_head {f : Frame} {rest : List Frame} (waiting : u.forward = f :: rest) :
    u.sendForwarded = leaving { u with forward := rest, verdictRun := 0 } f := by
  rw [State.sendForwarded, waiting]
  exact startStation_eq _ _

theorem choose_forwarded {f : Frame} {rest : List Frame} (silent : u.response = none)
    (passed : u.verdicts = [] ∨ 4 ≤ u.verdictRun) (waiting : u.forward = f :: rest) :
    u.choose = leaving { u with forward := rest, verdictRun := 0 } f := by
  refine Eq.trans ?_ (sendForwarded_head waiting)
  rw [State.choose, silent]
  cases verdicts : u.verdicts with
  | nil => rfl
  | cons v vs =>
    have four : 4 ≤ u.verdictRun := passed.resolve_left (by simp [verdicts])
    exact if_neg (by simp [waiting, four])

theorem releaseCommand_own {r : FrameRecord} (held : u.stationAsm = .hold r) (own : frameAddress r.bytes = u.ownAddress)
    (command : frameKind r.bytes = kindCommand) : u.releaseCommand = u.stationDone.runCommand (framePayload r.bytes) := by
  rw [State.releaseCommand, held]
  exact if_pos (by simp [State.isOwnCommand, own, command])

theorem releaseCommand_other {r : FrameRecord} (held : u.stationAsm = .hold r)
    (other : frameAddress r.bytes ≠ u.ownAddress ∨ frameKind r.bytes ≠ kindCommand) : u.releaseCommand = u := by
  rw [State.releaseCommand, held]
  refine if_neg fun own => ?_
  simp only [State.isOwnCommand, Bool.and_eq_true, beq_iff_eq] at own
  rcases other with h | h
  · exact h own.1
  · exact h own.2

end Arbiter

/-- Settles O16: each clause is one branch of the choice, and the release of a held COMMAND. -/
theorem arbiterChooses : Obligations.ArbiterChooses := by
  unfold Obligations.ArbiterChooses
  refine fun u => ⟨State.arbitrate_busy, fun idle => ?_⟩
  rw [State.arbitrate_idle idle]
  refine ⟨fun f waiting free => ?_, fun f r waiting held own command => ?_, fun f r waiting held other => ?_,
    fun v rest silent waiting turn => choose_verdict silent waiting turn,
    fun f rest silent passed waiting => choose_forwarded silent passed waiting, State.choose_nothing⟩
  · rw [choose_response waiting, State.releaseCommand_free]
    exact free
  · rw [choose_response waiting,
      releaseCommand_own (u := leaving { u with response := none, verdictRun := 0 } f) held own command]
    rfl
  · rw [choose_response waiting, releaseCommand_other (u := leaving { u with response := none, verdictRun := 0 } f) held other]

/-! ## The verdict queue (R156) -/

/-- A list without an element of the property is left alone where only such elements change. -/
theorem map_spared {α : Type} {p : α → Bool} {f : α → α} {l : List α} (h : ∀ a ∈ l, p a = false) :
    (l.map fun a => if p a then f a else a) = l :=
  (List.map_congr_left (g := id) fun a m => if_neg (by simp [h a m])).trans (List.map_id l)

/-- Settles O51: without an entry of the zone the tail grows; its one entry is updated in its place. -/
theorem verdictsCoalesce : Obligations.VerdictsCoalesce := by
  unfold Obligations.VerdictsCoalesce
  refine fun z now c q => ⟨fun none => ?_, fun before v after split own others => ?_⟩
  · rw [queueVerdict, if_neg]
    simpa using none
  · rw [queueVerdict, if_pos (by simp [split, own]), split, List.map_append, List.map_cons]
    rw [map_spared fun w m => ?_, map_spared fun w m => ?_]
    · simp [own]
    · simpa using others w (List.mem_append_right _ m)
    · simpa using others w (List.mem_append_left _ m)

end Sys2Proof.Machine

/-! SUPPORT. The Intake Classifier: O17 to O20. -/

namespace Sys2Proof.Machine

open Sys2Proof Slice0

/-! ## The head leaves the intake queue (R12) -/

section HeadGone

variable (t : State) (rest : List IntakeFrame)

@[simp] theorem headGone_counter : (headGone t rest).counter = t.counter := by unfold headGone; split <;> rfl
@[simp] theorem headGone_probes : (headGone t rest).probes = t.probes := by unfold headGone; split <;> rfl
@[simp] theorem headGone_arith : (headGone t rest).arith = t.arith := by unfold headGone; split <;> rfl
@[simp] theorem headGone_curve : (headGone t rest).curve = t.curve := by unfold headGone; split <;> rfl
@[simp] theorem headGone_sticky : (headGone t rest).sticky = t.sticky := by unfold headGone; split <;> rfl
@[simp] theorem headGone_deferred : (headGone t rest).deferred = t.deferred := by unfold headGone; split <;> rfl
@[simp] theorem headGone_noticePending : (headGone t rest).noticePending = t.noticePending := by
  unfold headGone
  split <;> rfl

theorem headGone_free (free : t.fieldAsm.holding = false) : headGone t rest = { t with intake := rest } := by
  unfold headGone
  split
  · next r held => simp [held, Assembler.holding] at free
  · rfl

theorem headGone_held {r : FrameRecord} {stamp : Stamp} (held : t.fieldAsm = .hold r) (stamped : r.stamp = some stamp) :
    headGone t rest =
      { t with
        intake := rest ++ [{ bytes := r.bytes, stamp := stamp }], fieldAsm := .idle
        fieldRx := { strobe := t.fieldRx.strobe, ack := t.fieldRx.strobe } } := by
  unfold headGone
  simp only [held, stamped, Option.getD_some]

end HeadGone

/-! ## What the classifier does with its head (R47, R48) -/

theorem exec_takeHead {s t : State} (h : s.meets t) : exec .classifierTakeHead s = .next t.takeHead.arbitrate :=
  event_meets h fun u => u.takeHead.arbitrate

theorem takeHead_empty {t : State} (h : t.intake = []) : t.takeHead = t := by
  unfold State.takeHead
  simp only [h]

section Head

variable {t : State} {f : IntakeFrame} {rest : List IntakeFrame} (head : t.intake = f :: rest)
include head

theorem takeHead_finishable {k : Treatment} (treatment : t.treatment f.bytes = k) (finishable : t.finishable k = true) :
    t.takeHead = disposed ((headGone t rest).treat f k) f.bytes k.action := by
  unfold State.takeHead
  simp only [head, treatment, finishable, if_true, dispose_eq, removeHead_eq]

theorem takeHead_waits (waits : t.finishable (t.treatment f.bytes) = false) : t.takeHead = t := by
  unfold State.takeHead
  simp only [head, waits]
  rfl

end Head

section Treatment

variable {t : State} {f : Frame}

theorem treatment_plain (h : frameKind f ≠ 1 ∨ t.findProbe (frameAddress f) = none) : t.treatment f = .plain := by
  unfold State.treatment
  rcases h with other | untabled
  · exact if_neg other
  · rw [untabled]
    exact ite_self _

theorem treatment_tabled {e : ProbeEntry} (kind : frameKind f = 1) (tabled : t.findProbe (frameAddress f) = some e) :
    t.treatment f = if frameLength f = 5 then .sample e else .wrongLength e := by
  unfold State.treatment
  rw [tabled]
  exact if_pos kind

theorem finishable_forward {k : Treatment} (forward : k.action = .forward) :
    t.finishable k = decide (t.forward.length < 8) := by
  unfold State.finishable
  rw [forward]

theorem finishable_of {k : Treatment} (h : k.action = .absorb ∨ t.forward.length < 8) : t.finishable k = true := by
  unfold State.finishable
  rcases h with absorb | room
  · rw [absorb]
  · split
    · rfl
    · exact decide_eq_true room

/-- Only a frame of a tabled probe can be absorbed (R48). -/
theorem treatment_forward
    (h : frameKind f ≠ 1 ∨ ∀ e, t.findProbe (frameAddress f) = some e → e.load.action = .forward) :
    (t.treatment f).action = .forward := by
  by_cases plain : frameKind f ≠ 1 ∨ t.findProbe (frameAddress f) = none
  · rw [treatment_plain plain]
    rfl
  · obtain ⟨kind, tabled⟩ := not_or.mp plain
    obtain ⟨e, found⟩ := Option.ne_none_iff_exists'.mp tabled
    have forwards : e.load.action = .forward := h.resolve_left (fun other => other (not_not.mp kind)) e found
    rw [treatment_tabled (not_not.mp kind) found]
    split <;> exact forwards

end Treatment

/-- Settles O17: a plain head goes by the room in the forward queue, and any bound for it waits without. -/
theorem classifierForwardsOrWaits : Obligations.ClassifierForwardsOrWaits := by
  unfold Obligations.ClassifierForwardsOrWaits
  refine fun s t h => ⟨fun empty => ?_, fun f rest head => ⟨fun plain room => ?_, fun full forwards => ?_⟩⟩
  · rw [exec_takeHead h, takeHead_empty empty]
  · have goes : t.takeHead = disposed (headGone t rest) f.bytes .forward :=
      takeHead_finishable head (treatment_plain plain) (finishable_of (.inr room))
    rw [exec_takeHead h, goes]
    refine ⟨fun free => ?_, fun r stamp held stamped => ?_⟩
    · rw [headGone_free t rest free]
      rfl
    · rw [headGone_held t rest held stamped]
      rfl
  · rw [exec_takeHead h, takeHead_waits head]
    rw [finishable_forward (treatment_forward forwards)]
    exact decide_eq_false (Nat.not_lt_of_le full)

/-! ## A SAMPLE that can be finished -/

section Ready

variable {s t : State} {f : IntakeFrame} {rest : List IntakeFrame} {e : ProbeEntry} (h : s.meets t)
  (ready : sampleReady t f rest e)
include h ready

theorem exec_sample (five : (f.bytes.getD 2 0).toNat = 5) :
    exec .classifierTakeHead s =
      .next (State.arbitrate (disposed ((headGone t rest).goodSample e f) f.bytes e.load.action)) := by
  obtain ⟨head, kind, tabled, finishes⟩ := ready
  rw [exec_takeHead h, takeHead_finishable head ((treatment_tabled kind tabled).trans (if_pos five)) (finishable_of finishes)]
  rfl

theorem exec_wrongLength (other : (f.bytes.getD 2 0).toNat ≠ 5) :
    exec .classifierTakeHead s =
      .next (State.arbitrate (disposed ((headGone t rest).countDamage e) f.bytes e.load.action)) := by
  obtain ⟨head, kind, tabled, finishes⟩ := ready
  rw [exec_takeHead h, takeHead_finishable head ((treatment_tabled kind tabled).trans (if_neg other)) (finishable_of finishes)]
  rfl

end Ready

/-- Settles O20: a SAMPLE of another length, and a damaged-frame report, count by `damageCounted`. -/
theorem damagedFramesCount : Obligations.DamagedFramesCount := by
  unfold Obligations.DamagedFramesCount
  refine ⟨fun s t f rest e h ready other => ?_, fun u a => ⟨fun none => ?_, fun e tabled => ?_⟩⟩
  · rw [exec_wrongLength h ready other, countDamage_eq]
  · rw [damagedReport_eq, none]
  · rw [damagedReport_eq, tabled]

/-! ## The payload of a SAMPLE (R49) -/

section Payload

variable {f : Frame} (five : (f.getD 2 0).toNat = 5) (whole : 8 ≤ f.length)
include five whole

theorem u8_framePayload {n : Nat} (h : n < 5) : u8 (framePayload f) n = payloadByte f n := by
  have five' : frameLength f = 5 := five
  have inside : 3 + n < f.length := by omega
  unfold u8 framePayload payloadByte
  rw [five', List.getD_eq_getElem?_getD, List.getD_eq_getElem?_getD, List.getElem?_take_of_lt h, List.getElem?_drop]

theorem sampleStatus_eq : sampleStatus f = payloadByte f 0 := u8_framePayload five whole (by omega)

theorem sampleCodeA_eq : sampleCodeA f = min 4095 (256 * payloadByte f 1 + payloadByte f 2) := by
  unfold sampleCodeA limitCode u16
  rw [u8_framePayload five whole (by omega), u8_framePayload five whole (by omega), Nat.min_comm]

theorem sampleCodeB_eq : sampleCodeB f = min 4095 (256 * payloadByte f 3 + payloadByte f 4) := by
  unfold sampleCodeB limitCode u16
  rw [u8_framePayload five whole (by omega), u8_framePayload five whole (by omega), Nat.min_comm]

end Payload

/-- The temperature of a SURFACE or WATER sample, the credit added for WATER (R77). -/
theorem convertSurface_eq (mode : Rounding) (p : ProbeLoad) (code : Nat) :
    convertSurface mode p code =
      if p.kind = .water then clampTo (-4000) 8500 (calibrateA mode p code + p.credit) else calibrateA mode p code := by
  unfold convertSurface
  cases p.kind <;> rfl

theorem goodSample_surface (s : State) {e : ProbeEntry} (f : IntakeFrame) (kind : e.load.kind ≠ .air) :
    s.goodSample e f =
      s.updateProbe e (heardEntry e s.counter f.stamp (surfaceValue s e f.bytes)) := by
  unfold State.goodSample
  cases k : e.load.kind with
  | air => exact absurd k kind
  | _ => rfl

/-- Settles O18: the value by status, kind and credit, and the evaluation by `updateProbe`. -/
theorem surfaceSampleSetsTheValue : Obligations.SurfaceSampleSetsTheValue := by
  unfold Obligations.SurfaceSampleSetsTheValue
  intro s t f rest e h ready five whole kind
  rw [exec_sample h ready five, goodSample_surface _ f kind]
  have value :
      surfaceValue (headGone t rest) e f.bytes =
        if payloadByte f.bytes 0 ≠ 0 then .void
        else if e.load.kind = .water then
          .value (clampTo (-4000) 8500
            (calibrateA t.arith.mode e.load (min 4095 (256 * payloadByte f.bytes 1 + payloadByte f.bytes 2)) + e.load.credit))
        else
          .value (calibrateA t.arith.mode e.load (min 4095 (256 * payloadByte f.bytes 1 + payloadByte f.bytes 2))) := by
    unfold surfaceValue
    rw [sampleStatus_eq five whole, sampleCodeA_eq five whole, convertSurface_eq, headGone_arith]
    split_ifs <;> rfl
  rw [value, headGone_counter]
  unfold State.updateProbe
  rw [headGone_probes]
  rfl

/-! ## A good SAMPLE of an AIR probe (R49, R76) -/

section Air

variable (u : State) (e : ProbeEntry) {f : IntakeFrame}

theorem airSample_bad (bad : sampleStatus f.bytes ≠ 0) :
    u.airSample e f =
      pushed { u with probes := rewritten u.probes (heardEntry e u.counter f.stamp e.lastValue) } e.load.zone f.stamp none := by
  unfold State.airSample
  rw [if_pos bad]
  exact push_eq _ _ _ _

theorem airSample_dew (good : sampleStatus f.bytes = 0) {v : Conversion} {d : Int}
    (converts : convertAir u.arith u.curve u.sticky u.deferred e.load (sampleCodeA f.bytes) (sampleCodeB f.bytes) = v)
    (dew : v.dew = some d) :
    u.airSample e f =
      pushed
        { u with
          probes := rewritten u.probes (heardEntry e u.counter f.stamp e.lastValue)
          sticky := v.sticky, deferred := 0
          noticePending := { u.noticePending with arith := u.noticePending.arith ||| v.posted } }
        e.load.zone f.stamp (some d) := by
  unfold State.airSample
  simp only [if_neg (not_not.mpr good), converts, dew]
  exact push_eq _ _ _ _

theorem airSample_stopped (good : sampleStatus f.bytes = 0) {v : Conversion}
    (converts : convertAir u.arith u.curve u.sticky u.deferred e.load (sampleCodeA f.bytes) (sampleCodeB f.bytes) = v)
    (stopped : v.dew = none) :
    u.airSample e f =
      { u with
        probes := rewritten u.probes (heardEntry e u.counter f.stamp e.lastValue)
        sticky := v.sticky, deferred := 0
        noticePending := { u.noticePending with arith := u.noticePending.arith ||| v.posted } } := by
  unfold State.airSample
  simp only [if_neg (not_not.mpr good), converts, stopped]
  rfl

end Air

/-- Settles O19: a VOID push, a dew point's push, or none where the conversion stopped. -/
theorem airSamplePushes : Obligations.AirSamplePushes := by
  unfold Obligations.AirSamplePushes
  intro s t f rest e h ready five whole air
  have sampled : (headGone t rest).goodSample e f = (headGone t rest).airSample e f := by
    unfold State.goodSample
    rw [air]
  have status := sampleStatus_eq five whole
  have converts :
      convertAir (headGone t rest).arith (headGone t rest).curve (headGone t rest).sticky (headGone t rest).deferred e.load
          (sampleCodeA f.bytes) (sampleCodeB f.bytes) =
        convertAir t.arith t.curve t.sticky t.deferred e.load
          (min 4095 (256 * payloadByte f.bytes 1 + payloadByte f.bytes 2))
          (min 4095 (256 * payloadByte f.bytes 3 + payloadByte f.bytes 4)) := by
    rw [headGone_arith, headGone_curve, headGone_sticky, headGone_deferred, sampleCodeA_eq five whole,
      sampleCodeB_eq five whole]
  rw [exec_sample h ready five, sampled]
  refine ⟨fun bad => ?_, fun d good dew => ?_, fun good stopped => ?_⟩
  · rw [airSample_bad _ _ (status ▸ bad)]
    simp only [headGone_counter, headGone_probes]
  · rw [airSample_dew _ _ (status.trans good) converts dew, headGone_counter, headGone_probes, headGone_noticePending]
  · rw [airSample_stopped _ _ (status.trans good) converts stopped, headGone_counter, headGone_probes,
      headGone_noticePending]

end Sys2Proof.Machine

/-! SUPPORT. Expiries, wet inputs and demand outputs: O21 to O25. -/

namespace Sys2Proof.Machine

open Sys2Proof Slice0

/-- Settles O21: each expiry is taken whole on the settled part, a slot's own row before the others due. -/
theorem deadlineExpiries : Obligations.DeadlineExpiries := by
  unfold Obligations.DeadlineExpiries
  refine fun s t => ⟨fun a e h tabled => ?_, fun z k h => ?_, fun z a h armed => ?_⟩
  · exact (expiryEvent_expires h (State.takeSilence a)).trans (congrArg _ (takeSilence_eq tabled))
  · obtain ⟨undue, h⟩ | ⟨running, due, rfl⟩ := h
    · exact (execSlotExpiry_undue undue).trans (expiryEvent_expires h (State.takeSlot z k))
    · exact execSlotExpiry_due running due
  · refine (expiryEvent_expires h (State.takeTrend z)).trans (congrArg _ ?_)
    unfold State.takeTrend
    rw [armed]
    rfl

/-- Settles O22: both expiries enter their state by `applyDecision` on one change. -/
theorem riskDeadlinesExpire : Obligations.RiskDeadlinesExpire := by
  unfold Obligations.RiskDeadlinesExpire
  refine fun s t z => ⟨fun p h armed watch => ?_, fun h level => ?_⟩
  · exact (expiryEvent_expires h (State.takePersistence z)).trans (congrArg _ (takePersistence_eq armed watch))
  · exact (expiryEvent_expires h (State.takeBlind z)).trans (congrArg _ (takeBlind_eq level))

/-! ## Wet pins (R135, R136) -/

theorem exec_wetLevelChange {s t : State} (h : s.meets t) (i : Fin 4) (high : Bool) :
    exec (.wetLevelChange i high) s = .next (State.wetLevel i high t) :=
  pinEvent_meets h (State.wetPin i high) (State.wetLevel i high)

section LevelChange

variable {r : WetInput} {now : Stamp} {high : Bool}

theorem levelChange_wets (dry : r.state = .dry) (wet : high = r.wetLevel) :
    r.levelChange now high = { r with pin := high, state := .toWet, deadline := some (setDeadline now now r.qualify) } := by
  simp [WetInput.levelChange, dry, wet]

theorem levelChange_staysDry (turning : r.state = .toWet) (dry : high ≠ r.wetLevel) :
    r.levelChange now high = { r with pin := high, state := .dry, deadline := none } := by
  simp [WetInput.levelChange, turning, dry]

theorem levelChange_dries (wet : r.state = .wet) (dry : high ≠ r.wetLevel) :
    r.levelChange now high = { r with pin := high, state := .toDry, deadline := some (setDeadline now now r.qualify) } := by
  simp [WetInput.levelChange, wet, dry]

theorem levelChange_staysWet (turning : r.state = .toDry) (wet : high = r.wetLevel) :
    r.levelChange now high = { r with pin := high, state := .wet, deadline := none } := by
  simp [WetInput.levelChange, turning, wet]

end LevelChange

/-- Settles O23: a new level by the state of the input, and a qualification expiry whole. -/
theorem wetContactsQualify : Obligations.WetContactsQualify := by
  unfold Obligations.WetContactsQualify
  intro s t i
  refine ⟨fun high h same => ?_, fun high h other => ?_, fun h turning => ?_⟩
  · rw [exec_wetLevelChange h, State.wetLevel, if_pos same]
  · rw [exec_wetLevelChange h, State.wetLevel, if_neg other]
    exact ⟨fun dry wet => by rw [levelChange_wets dry wet], fun turning dry => by rw [levelChange_staysDry turning dry],
      fun wet dry => by rw [levelChange_dries wet dry], fun turning wet => by rw [levelChange_staysWet turning wet]⟩
  · exact (expiryEvent_expires h (State.takeQualification i)).trans (congrArg _ (takeQualification_eq turning))

/-! ## Periods and levels (R142, R144) -/

theorem activeAt_iff (o : Output) (now : Stamp) :
    o.activeAt now = true ↔ o.enabled = true ∧ o.driven = true ∧ withinDuty o now = true := by
  simp [Output.activeAt, inDuty_eq, and_assoc]

theorem pinHigh_iff (o : Output) (now : Stamp) :
    o.pinHigh now = true ↔ (o.polarity = .activeHigh ↔ o.activeAt now = true) := by
  unfold Output.pinHigh
  cases o.polarity <;> simp

theorem endDuty_over {o : Output} {now : Stamp} (on : o.enabled = true) (driven : o.driven = true)
    (finished : withinDuty o now = false) : o.endDuty now = { o with driven := false } := by
  simp [Output.endDuty, inDuty_eq, on, driven, finished]

/-- Settles O24: a boundary begins a period, and the end of a duty only ends its active part. -/
theorem outputPeriodsRun : Obligations.OutputPeriodsRun := by
  unfold Obligations.OutputPeriodsRun
  intro s t i
  refine ⟨fun a h armed => ?_, fun h on driven finished => ?_, fun now => ?_⟩
  · refine (expiryEvent_expires h (State.takeBoundary i)).trans (congrArg _ ?_)
    unfold State.takeBoundary
    rw [armed]
    rfl
  · refine (event_meets h fun u => u.dutyEnd i).trans (congrArg _ ?_)
    rw [State.dutyEnd, endDuty_over on driven finished]
  · rw [pinHigh_iff, activeAt_iff]

/-! ## The duty of a period (R143) -/

theorem mem_zoneList (o : Output) (z : Fin 24) : z ∈ o.zoneList ↔ o.zones.getLsbD z = true := by
  simp [Output.zoneList, allZones]

section Duty

variable {u : State} {o : Output} (auto : o.mode = .auto)
include auto

theorem duty_condensing {z : Fin 24} (inSet : o.zones.getLsbD z = true) (condensing : (u.zone z).state = .condensing) :
    u.duty o = (o.period, .condensing, none) := by
  have some : (o.zoneList.any fun z => (u.zone z).state == .condensing) = true := by
    rw [List.any_eq_true]
    exact ⟨z, (mem_zoneList o z).mpr inSet, by simp [condensing]⟩
  unfold State.duty
  simp only [auto, some, if_true]

variable (none : ∀ z : Fin 24, o.zones.getLsbD z = true → (u.zone z).state ≠ .condensing)
include none

theorem duty_known :
    u.duty o =
      match (o.zoneList.filterMap u.marginNow).min? with
      | some w => (dutyOf o.band o.period w, .margin, some w)
      | .none => (o.fallback, .fallback, .none) := by
  have free : (o.zoneList.any fun z => (u.zone z).state == .condensing) = false := by
    simpa [mem_zoneList] using none
  unfold State.duty
  simp only [auto, free]
  rfl

theorem duty_fallback (unknown : ∀ z : Fin 24, o.zones.getLsbD z = true → u.marginNow z = .none) :
    u.duty o = (o.fallback, .fallback, .none) := by
  have least : (o.zoneList.filterMap u.marginNow).min? = .none := by
    rw [List.min?_eq_none_iff, List.filterMap_eq_nil_iff]
    exact fun z inSet => unknown z ((mem_zoneList o z).mp inSet)
  rw [duty_known auto none, least]

theorem duty_margin {z : Fin 24} {w : Int} (inSet : o.zones.getLsbD z = true) (known : u.marginNow z = some w)
    (least : ∀ (y : Fin 24) x, o.zones.getLsbD y = true → u.marginNow y = some x → w ≤ x) :
    u.duty o = (dutyOf o.band o.period w, .margin, some w) := by
  have smallest : (o.zoneList.filterMap u.marginNow).min? = some w := by
    rw [List.min?_eq_some_iff]
    simp only [List.mem_filterMap, mem_zoneList]
    exact ⟨⟨z, inSet, known⟩, fun x ⟨y, inSet', known'⟩ => least y x inSet' known'⟩
  rw [duty_known auto none, smallest]

end Duty

theorem dutyOf_low {band period : Nat} {w : Int} (low : w ≤ 0) : dutyOf band period w = period := if_pos low

theorem dutyOf_high {band period : Nat} {w : Int} (pos : 0 < w) (high : (band : Int) ≤ w) : dutyOf band period w = 0 := by
  rw [dutyOf, if_neg (Int.not_le.mpr pos), if_pos high]

/-- Between the bounds the share of the period is rounded down. -/
theorem dutyOf_between {band period : Nat} {w : Int} (pos : 0 < w) (below : w < band) :
    (dutyOf band period w : Int) * band ≤ (band - w) * period ∧
      (band - w) * period < ((dutyOf band period w : Int) + 1) * band := by
  obtain ⟨n, share⟩ := Int.eq_ofNat_of_zero_le (show 0 ≤ (band : Int) - w by omega)
  have bandPos : 0 < band := by omega
  rw [dutyOf, if_neg (Int.not_le.mpr pos), if_neg (Int.not_le.mpr below), share, Int.toNat_natCast]
  have low := Nat.div_mul_le_self (n * period) band
  have high := Nat.lt_mul_div_succ (n * period) bandPos
  rw [Nat.mul_comm band] at high
  exact ⟨by exact_mod_cast low, by exact_mod_cast high⟩

/-- Settles O25: the branches of the duty, and the division of the margin's share. -/
theorem dutyFollowsTheSmallestMargin : Obligations.DutyFollowsTheSmallestMargin := by
  unfold Obligations.DutyFollowsTheSmallestMargin
  intro u o inSet marginOfZone
  have spelled : marginOfZone = u.marginNow := rfl
  refine ⟨fun manual => ?_, fun auto ⟨z, set, condensing⟩ => duty_condensing auto set condensing, fun auto none =>
    ⟨fun unknown => duty_fallback auto none (spelled ▸ unknown), fun z w set known least => ?_⟩⟩
  · unfold State.duty
    rw [manual]
  · exact ⟨_, duty_margin auto none set (spelled ▸ known) (spelled ▸ least), dutyOf_low, dutyOf_high, dutyOf_between⟩

end Sys2Proof.Machine

/-! SUPPORT. COMMAND payloads, their rows and the check of their length: O60, O26 and O27. -/

namespace Sys2Proof.Machine

open Sys2Proof Slice0

/-! ## The row of a payload (R167, R188) -/

theorem byte_of_toNat {code : Byte} {n : Nat} (h : code.toNat = n) : code = BitVec.ofNat 8 n := by simp [← h]

theorem unlistedCode_iff (code : Byte) : unlistedCode code = true ↔ code.toNat = 0 ∨ 30 ≤ code.toNat := by
  simp [unlistedCode]

/-- A code that names no command reads as UNKNOWN_COMMAND (R167). -/
theorem ofPayload_unlisted {code : Byte} (h : code.toNat = 0 ∨ 30 ≤ code.toNat) (fields : List Byte) :
    Instr.ofPayload (code :: fields) = .unknownCommand (code :: fields) := by
  unfold Instr.ofPayload
  dsimp only
  split
  case h_30 => rfl
  all_goals omega

/-- Every payload is the payload of the row it reads as. -/
theorem payload_ofPayload (p : List Byte) : (Instr.ofPayload p).payload = some p := by
  cases p with
  | nil => rfl
  | cons code fields =>
    unfold Instr.ofPayload
    dsimp only
    split
    case h_30 => rfl
    all_goals
      rename_i h
      rw [byte_of_toNat h]
    case h_2 => split <;> rfl
    case h_28 => split <;> rfl
    all_goals rfl

theorem wellFormed_restart {fields : List Byte} (fits : fieldsFit fields = true) :
    WellFormed (if fields = [2#8] then .restartFull fields else .restartEvaluation fields) = true := by
  by_cases full : fields = [2#8]
  · rw [if_pos full]
    simp [WellFormed, full]
  · rw [if_neg full]
    simp [WellFormed, fits, full]

theorem wellFormed_noticeRead {fields : List Byte} (fits : fieldsFit fields = true) :
    WellFormed (if fields = [1#8] then .readNotices fields else .peekNotices fields) = true := by
  by_cases read : fields = [1#8]
  · rw [if_pos read]
    simp [WellFormed, read]
  · rw [if_neg read]
    simp [WellFormed, fits, read]

/-- A payload that fits a frame reads as a well-formed row. -/
theorem wellFormed_ofPayload {p : List Byte} (short : p.length ≤ 60) : WellFormed (Instr.ofPayload p) = true := by
  cases p with
  | nil => rfl
  | cons code fields =>
    have fits : fieldsFit fields = true := decide_eq_true short
    by_cases unlisted : code.toNat = 0 ∨ 30 ≤ code.toNat
    · rw [ofPayload_unlisted unlisted]
      simp [WellFormed, unknownPayload, (unlistedCode_iff code).mpr unlisted, fits]
    · obtain ⟨named, listed⟩ := not_or.mp unlisted
      have one : 1 ≤ code.toNat := Nat.one_le_iff_ne_zero.mpr named
      have last : code.toNat < 30 := Nat.lt_of_not_le listed
      unfold Instr.ofPayload
      dsimp only
      generalize code.toNat = n at one last
      interval_cases n
      any_goals exact fits
      · exact wellFormed_restart fits
      · exact wellFormed_noticeRead fits

theorem fieldsFit_iff (fields : List Byte) (code : Byte) : fieldsFit fields = true ↔ (code :: fields).length ≤ 60 := by
  simp [fieldsFit]

/-- A well-formed COMMAND row is the row its payload reads as. -/
theorem ofPayload_payload {i : Instr} {p : List Byte} (formed : WellFormed i = true) (payload : i.payload = some p) :
    Instr.ofPayload p = i ∧ p.length ≤ 60 := by
  cases i
  case unknownCommand q =>
    obtain rfl := Option.some.inj payload
    cases q with
    | nil => exact ⟨rfl, by simp⟩
    | cons code fields =>
      obtain ⟨unlisted, fits⟩ := Bool.and_eq_true_iff.mp formed
      exact ⟨ofPayload_unlisted ((unlistedCode_iff code).mp unlisted) fields, (fieldsFit_iff fields code).mp fits⟩
  case restartFull f =>
    obtain rfl := Option.some.inj payload
    obtain rfl : f = [2#8] := by simpa [WellFormed] using formed
    exact ⟨rfl, by simp⟩
  case restartEvaluation f =>
    obtain rfl := Option.some.inj payload
    obtain ⟨fits, other⟩ := Bool.and_eq_true_iff.mp formed
    exact ⟨if_neg (by simpa using other), (fieldsFit_iff f 2).mp fits⟩
  case readNotices f =>
    obtain rfl := Option.some.inj payload
    obtain rfl : f = [1#8] := by simpa [WellFormed] using formed
    exact ⟨rfl, by simp⟩
  case peekNotices f =>
    obtain rfl := Option.some.inj payload
    obtain ⟨fits, other⟩ := Bool.and_eq_true_iff.mp formed
    exact ⟨if_neg (by simpa using other), (fieldsFit_iff f 28).mp fits⟩
  all_goals
    cases payload
    try exact ⟨rfl, (fieldsFit_iff _ _).mp formed⟩

/-- Settles O60: both directions go by the code byte. -/
theorem payloadsAndRowsAgree : Obligations.PayloadsAndRowsAgree := by
  unfold Obligations.PayloadsAndRowsAgree
  exact ⟨fun i p => ofPayload_payload, fun p short => ⟨payload_ofPayload p, wellFormed_ofPayload short⟩⟩

/-! ## A COMMAND row as the dispatch of its frame (R165) -/

/-- The row of a code runs its payload. -/
theorem commandRow_runs {code : Byte} {n : Nat} (h : code.toNat = n) (fields : List Byte) {answer : State → Answer}
    (judged : ∀ t, commandAnswer n fields t = answer t) (s : State) :
    commandRow n fields answer s =
      event s (State.takeCommand (code :: fields) fun t => t.runCommand (code :: fields)) := by
  subst h
  unfold commandRow State.runCommand
  simp only [judged, BitVec.ofNat_toNat, BitVec.setWidth_eq]

theorem exec_ofPayload (p : List Byte) (s : State) :
    exec (Instr.ofPayload p) s = event s (State.takeCommand p fun t => t.runCommand p) := by
  cases p with
  | nil => rfl
  | cons code fields =>
    unfold Instr.ofPayload
    dsimp only
    split
    case h_30 => rfl
    case h_2 h => split <;> exact commandRow_runs h fields (fun _ => rfl) s
    case h_28 h => split <;> exact commandRow_runs h fields (fun _ => rfl) s
    all_goals
      rename_i h
      exact commandRow_runs h fields (fun _ => rfl) s

theorem exec_ofPayload_hears {s u : State} (h : s.hears u) (p : List Byte) :
    exec (Instr.ofPayload p) s = .next (u.runCommand p).arbitrate := by
  rw [exec_ofPayload]
  exact takeCommand_hears h p fun t => t.runCommand p

/-- Settles O26: the row of a payload dispatches it, whatever its code. -/
theorem commandFramesRunTheirRow : Obligations.CommandFramesRunTheirRow := by
  unfold Obligations.CommandFramesRunTheirRow
  refine fun p s => ⟨fun u h => exec_ofPayload_hears h p, fun running free full => ?_, fun running held => ?_⟩
  · rw [exec_ofPayload, event_meets ⟨running, rfl⟩, takeCommand_full free full]
    rfl
  · rw [exec_ofPayload, event_meets ⟨running, rfl⟩, takeCommand_holding held]

/-! ## The length check (R168) -/

theorem sized_refused {n : Nat} {f : List Byte} (h : (f.length + 1 == n + 1) = false) (s : State) (a : Answer) :
    sized n f s a = refuse .length s := sized_wrong (by simpa using h) s a

theorem curvePoints_refused {f : List Byte} (h : lengthAllowed 15 (f.length + 1) = false) (s : State) :
    curvePoints f s = refuse .length s := by
  refine if_neg fun size => ?_
  simp only [lengthAllowed, Bool.and_eq_false_iff, beq_eq_false_iff_ne, decide_eq_false_iff_not] at h
  omega

/-- A length that the code does not allow is refused before any field is read. -/
theorem commandAnswer_length {code : Nat} (one : 1 ≤ code) (last : code ≤ 29) {f : List Byte}
    (wrong : lengthAllowed code (f.length + 1) = false) (s : State) : commandAnswer code f s = refuse .length s := by
  by_cases points : code = 15
  · subst points
    exact curvePoints_refused wrong s
  · interval_cases code
    any_goals exact sized_refused wrong s _
    exact absurd rfl points

theorem commandAnswer_unlisted {code : Nat} (h : code = 0 ∨ 30 ≤ code) (f : List Byte) (s : State) :
    commandAnswer code f s = refuse .unknown s := by
  unfold commandAnswer
  split
  case h_30 => rfl
  all_goals omega

/-- A refused payload leaves the part as it is, with its code and result in the slot. -/
theorem exec_refused {s u : State} (h : s.hears u) {code : Byte} {fields : List Byte} {r : Result}
    (e : commandAnswer code.toNat fields u = refuse r u) :
    exec (Instr.ofPayload (code :: fields)) s = answered u code.toNat r [] := by
  rw [exec_ofPayload_hears h]
  unfold State.runCommand answered State.place
  simp only [e, refuse, BitVec.ofNat_toNat, BitVec.setWidth_eq]

/-- Settles O27: the length check and the list of codes come before the fields. -/
theorem wrongLengthsAndCodesAreRefused : Obligations.WrongLengthsAndCodesAreRefused := by
  unfold Obligations.WrongLengthsAndCodesAreRefused
  refine fun s u fields h => ⟨fun code one last wrong => exec_refused h (commandAnswer_length one last wrong u),
    fun code unlisted => ?_, ?_⟩
  · rw [← ofPayload_unlisted unlisted]
    exact exec_refused h (commandAnswer_unlisted unlisted fields u)
  · exact exec_ofPayload_hears h []

end Sys2Proof.Machine

/-! SUPPORT. What the judgement of a COMMAND of an allowed length can come to, and the RESPONSE it leaves: O28 and O29. -/

namespace Sys2Proof.Machine

open Sys2Proof Slice0

/-! ## The lengths of the fields of a RESPONSE (R187) -/

@[simp] theorem b8_length (n : Nat) : (b8 n).length = 1 := rfl
@[simp] theorem i16_length (x : Int) : (i16 x).length = 2 := rfl
@[simp] theorem known_length (x : Option Int) : (known x).length = 2 := rfl
@[simp] theorem b24_length (t : Stamp) : (b24 t).length = 3 := rfl
@[simp] theorem flag_length (b : Bool) : (flag b).length = 1 := rfl
@[simp] theorem set4_length (b : BitVec 4) : (set4 b).length = 1 := rfl
@[simp] theorem stamped_length (t : Option Stamp) : (stamped t).length = 4 := rfl
@[simp] theorem deadlineField_length (d : Deadline) : (deadlineField d).length = 4 := rfl
@[simp] theorem thresholdsField_length (t : Thresholds) : (thresholdsField t).length = 8 := rfl
@[simp] theorem stagingField_length (g : Staging) : (stagingField g).length = 2 := rfl
@[simp] theorem arithmeticField_length (s : State) : (arithmeticField s).length = 4 := rfl
@[simp] theorem outputField_length (i : Fin 4) (o : Output) : (outputField i o).length = 27 := by simp [outputField]
@[simp] theorem persistenceField_length (p : Option Persistence) : (persistenceField p).length = 5 := rfl
@[simp] theorem zoneField_length (s : State) (z : Fin 24) : (zoneField s z).length = 54 := by
  unfold zoneField
  extract_lets x y
  simp only [List.length_append, b8_length, b16_length, flag_length, known_length, thresholdsField_length,
    deadlineField_length, persistenceField_length]
@[simp] theorem slotField_length (k : Slot) : k.field.length = 6 := rfl
@[simp] theorem wetTail_length (r : WetInput) : (wetTail r).length = 7 := rfl
@[simp] theorem probeLoadField_length (p : ProbeLoad) : p.field.length = 21 := rfl

@[simp] theorem lastValueField_length (v : LastValue) : v.field.length = 3 := by cases v <;> rfl

@[simp] theorem zoneOrNone_length (z : Option (Fin 24)) : (zoneOrNone z).length = 1 := by cases z <;> rfl

@[simp] theorem wetHead_length (r : WetInput) : (wetHead r).length = 5 := by simp [wetHead]

@[simp] theorem probeEntryField_length (e : ProbeEntry) : e.field.length = 34 := by simp [ProbeEntry.field]

@[simp] theorem noticeSetsField_length (n : NoticeSets) : n.field.length = 29 := by simp [NoticeSets.field]

theorem length_flatMap_const {α : Type} {n : Nat} {g : α → List Byte} (h : ∀ a, (g a).length = n) (l : List α) :
    (l.flatMap g).length = l.length * n := by
  simp [List.length_flatMap, h]

@[simp] theorem windowField_length (s : State) (z : Fin 24) : (windowField s z).length = 54 := by
  simp [windowField, length_flatMap_const slotField_length]

/-! ## What a judgement can come to (R167 to R169) -/

/-- The command is carried out with data that fit a frame, or refused for its fields or for the state of the part. -/
def Answer.Judged (s : State) (a : Answer) : Prop :=
  (a.result = .done ∧ a.data.length ≤ 55) ∨
    ∃ r, (r = .range ∨ r = .full ∨ r = .absent ∨ r = .sequence) ∧ a = refuse r s

section Judged

variable {s : State}

theorem judged_done {data : List Byte} (fits : data.length ≤ 55) (v : State) : (done data v).Judged s := .inl ⟨rfl, fits⟩

theorem judged_range : (refuse .range s).Judged s := .inr ⟨_, .inl rfl, rfl⟩

theorem judged_full : (refuse .full s).Judged s := .inr ⟨_, .inr (.inl rfl), rfl⟩

theorem judged_absent : (refuse .absent s).Judged s := .inr ⟨_, .inr (.inr (.inl rfl)), rfl⟩

theorem judged_sequence : (refuse .sequence s).Judged s := .inr ⟨_, .inr (.inr (.inr rfl)), rfl⟩

theorem judged_withZone {n : Nat} {k : Fin 24 → Answer} (h : ∀ z, (k z).Judged s) : (withZone n s k).Judged s := by
  unfold withZone
  split
  · exact h _
  · exact judged_range

theorem judged_withUnit {n : Nat} {k : Fin 4 → Answer} (h : ∀ i, (k i).Judged s) : (withUnit n s k).Judged s := by
  unfold withUnit
  split
  · exact h _
  · exact judged_range

theorem judged_sized {n : Nat} {f : List Byte} (size : (f.length + 1 == n + 1) = true) {a : Answer} (h : a.Judged s) :
    (sized n f s a).Judged s := by
  rwa [sized_right (by simpa using size)]

theorem judged_ite {c : Prop} [Decidable c] {a b : Answer} (ha : a.Judged s) (hb : b.Judged s) :
    (if c then a else b).Judged s := by
  split
  · exact ha
  · exact hb

end Judged

/-! ## Each command of an allowed length -/

section Commands

variable {f : List Byte} {s : State}

theorem readTime_judged (size : lengthAllowed 1 (f.length + 1) = true) : (readTime f s).Judged s :=
  judged_sized size (judged_done (by simp) _)

theorem restart_judged (size : lengthAllowed 2 (f.length + 1) = true) : (restart f s).Judged s := by
  refine judged_sized size ?_
  split
  · exact judged_done (by simp) _
  · exact judged_done (by simp) _
  · exact judged_range

theorem loadProbe_judged (size : lengthAllowed 3 (f.length + 1) = true) : (loadProbe f s).Judged s := by
  refine judged_sized size ?_
  split
  · exact judged_range
  · dsimp only
    split
    · exact judged_ite (judged_done (by simp) _) judged_full
    · exact judged_done (by simp) _

theorem dropProbe_judged (size : lengthAllowed 4 (f.length + 1) = true) : (dropProbe f s).Judged s := by
  refine judged_sized size (judged_ite ?_ judged_range)
  split
  · exact judged_absent
  · exact judged_done (by simp) _

theorem readProbe_judged (size : lengthAllowed 5 (f.length + 1) = true) : (readProbe f s).Judged s := by
  refine judged_sized size (judged_ite ?_ judged_range)
  split
  · exact judged_absent
  · exact judged_done (by simp) _

theorem listProbes_judged (size : lengthAllowed 6 (f.length + 1) = true) : (listProbes f s).Judged s :=
  judged_sized size (judged_ite (judged_done (by simp; omega) _) judged_range)

theorem setZone_judged (size : lengthAllowed 7 (f.length + 1) = true) : (setZone f s).Judged s :=
  judged_sized size (judged_withZone fun _ => judged_ite (judged_done (by simp) _) judged_range)

theorem stageThresholds_judged (size : lengthAllowed 8 (f.length + 1) = true) : (stageThresholds f s).Judged s :=
  judged_sized size (judged_withZone fun _ => judged_ite (judged_done (by simp) _) judged_range)

theorem zoneAnswer_judged (z : Fin 24) (t : State) : (zoneAnswer z t).Judged s := judged_done (by simp) _

theorem enableZone_judged (size : lengthAllowed 9 (f.length + 1) = true) : (enableZone f s).Judged s :=
  judged_sized size (judged_withZone fun _ => judged_ite (zoneAnswer_judged _ _) (zoneAnswer_judged _ _))

theorem disableZone_judged (size : lengthAllowed 10 (f.length + 1) = true) : (disableZone f s).Judged s :=
  judged_sized size (judged_withZone fun _ => judged_ite (zoneAnswer_judged _ _) (zoneAnswer_judged _ _))

theorem readZone_judged (size : lengthAllowed 11 (f.length + 1) = true) : (readZone f s).Judged s :=
  judged_sized size (judged_withZone fun _ => judged_done (by simp) _)

theorem readWindow_judged (size : lengthAllowed 12 (f.length + 1) = true) : (readWindow f s).Judged s :=
  judged_sized size (judged_withZone fun _ => judged_done (by simp) _)

theorem clearWindow_judged (size : lengthAllowed 13 (f.length + 1) = true) : (clearWindow f s).Judged s :=
  judged_sized size (judged_withZone fun _ => judged_done (by simp) _)

theorem curveBegin_judged (size : lengthAllowed 14 (f.length + 1) = true) : (curveBegin f s).Judged s :=
  judged_sized size (judged_ite (judged_done (by simp) _) judged_range)

theorem curvePoints_judged (size : lengthAllowed 15 (f.length + 1) = true) : (curvePoints f s).Judged s := by
  have allowed : f.length % 2 = 1 ∧ 3 ≤ f.length ∧ f.length ≤ 33 := by
    simp only [lengthAllowed, Bool.and_eq_true, beq_iff_eq, decide_eq_true_eq] at size
    omega
  rw [curvePoints, if_pos allowed]
  refine judged_ite judged_range ?_
  split
  · exact judged_ite (judged_done (by simp) _) judged_sequence
  · exact judged_sequence

theorem restoreCurve_judged (size : lengthAllowed 17 (f.length + 1) = true) : (restoreCurve f s).Judged s :=
  judged_sized size (judged_done (by simp) _)

theorem readCurve_judged (size : lengthAllowed 18 (f.length + 1) = true) : (readCurve f s).Judged s :=
  judged_sized size (judged_ite (judged_done (by simp; omega) _) judged_range)

theorem setArithmetic_judged (size : lengthAllowed 19 (f.length + 1) = true) : (setArithmetic f s).Judged s := by
  refine judged_sized size ?_
  split
  · exact judged_done (by simp) _
  · exact judged_range

theorem readArithmetic_judged (size : lengthAllowed 20 (f.length + 1) = true) : (readArithmetic f s).Judged s :=
  judged_sized size (judged_done (by simp) _)

theorem clearSticky_judged (size : lengthAllowed 21 (f.length + 1) = true) : (clearSticky f s).Judged s :=
  judged_sized size (judged_done (by simp) _)

theorem setOutput_judged (size : lengthAllowed 22 (f.length + 1) = true) : (setOutput f s).Judged s := by
  refine judged_sized size (judged_withUnit fun i => ?_)
  split
  · exact judged_ite (judged_done (by simp) _) judged_range
  · exact judged_range

theorem setOutputMode_judged (size : lengthAllowed 23 (f.length + 1) = true) : (setOutputMode f s).Judged s := by
  refine judged_sized size (judged_withUnit fun i => ?_)
  split
  · exact judged_ite (judged_done (by simp) _) judged_range
  · exact judged_range

theorem readOutput_judged (size : lengthAllowed 24 (f.length + 1) = true) : (readOutput f s).Judged s :=
  judged_sized size (judged_withUnit fun _ => judged_done (by simp) _)

theorem setWetInput_judged (size : lengthAllowed 25 (f.length + 1) = true) : (setWetInput f s).Judged s := by
  refine judged_sized size (judged_withUnit fun i => ?_)
  split
  · exact judged_ite (judged_done (by simp) _) judged_range
  · exact judged_range

theorem readWetInputs_judged (size : lengthAllowed 26 (f.length + 1) = true) : (readWetInputs f s).Judged s :=
  judged_sized size (judged_done (by simp) _)

theorem setAlert_judged (size : lengthAllowed 27 (f.length + 1) = true) : (setAlert f s).Judged s :=
  judged_sized size (judged_ite (judged_done (by simp) _) judged_range)

theorem noticeRead_judged (size : lengthAllowed 28 (f.length + 1) = true) : (noticeRead f s).Judged s := by
  refine judged_sized size ?_
  split
  · exact judged_done (by simp) _
  · exact judged_done (by simp) _
  · exact judged_range

theorem acknowledgeNotices_judged (size : lengthAllowed 29 (f.length + 1) = true) : (acknowledgeNotices f s).Judged s :=
  judged_sized size (judged_done (by simp) _)

/-- CURVE COMMIT alone can be refused with a byte of data (R58). -/
theorem curveCommit_judged (size : lengthAllowed 16 (f.length + 1) = true) :
    (curveCommit f s).Judged s ∨ ∃ i, curveCommit f s = { result := .curve, data := b8 i, state := s } := by
  have empty : f.length = 0 := by simpa [lengthAllowed] using size
  rw [curveCommit, sized_right empty]
  split
  · split
    · next i _ => exact .inr ⟨i, rfl⟩
    · exact .inl (judged_done (by simp) _)
  · exact .inl judged_sequence

/-- The judgement of a command of an allowed length, by its code. -/
theorem commandAnswer_judged {code : Nat} (one : 1 ≤ code) (last : code ≤ 29)
    (size : lengthAllowed code (f.length + 1) = true) :
    (commandAnswer code f s).Judged s ∨
      (code = 16 ∧ ∃ i, commandAnswer code f s = { result := .curve, data := b8 i, state := s }) := by
  by_cases commit : code = 16
  · subst commit
    exact (curveCommit_judged size).imp id fun refused => ⟨rfl, refused⟩
  · refine .inl ?_
    interval_cases code
    exacts [readTime_judged size, restart_judged size, loadProbe_judged size, dropProbe_judged size, readProbe_judged size,
      listProbes_judged size, setZone_judged size, stageThresholds_judged size, enableZone_judged size,
      disableZone_judged size, readZone_judged size, readWindow_judged size, clearWindow_judged size,
      curveBegin_judged size, curvePoints_judged size, (commit rfl).elim, restoreCurve_judged size, readCurve_judged size,
      setArithmetic_judged size, readArithmetic_judged size, clearSticky_judged size, setOutput_judged size,
      setOutputMode_judged size, readOutput_judged size, setWetInput_judged size, readWetInputs_judged size,
      setAlert_judged size, noticeRead_judged size, acknowledgeNotices_judged size]

end Commands

/-! ## Every judgement (R166, R167) -/

/-- A judgement that is not DONE leaves the part as it is; only CURVE, of CURVE COMMIT, carries data. -/
def Answer.Refuses (code : Nat) (s : State) (a : Answer) : Prop :=
  a.result ≠ .done → a.state = s ∧ (a.result ≠ .curve → a.data = []) ∧ (a.result = .curve → code = 16 ∧ a.data.length = 1)

theorem refuses_refuse {r : Result} (other : r ≠ .curve) (code : Nat) (s : State) : (refuse r s).Refuses code s :=
  fun _ => ⟨rfl, fun _ => rfl, fun curve => absurd curve other⟩

theorem refuses_judged {s : State} {a : Answer} (h : a.Judged s) (code : Nat) : a.Refuses code s := by
  obtain ⟨done, _⟩ | ⟨r, named, rfl⟩ := h
  · exact fun refused => absurd done refused
  · refine refuses_refuse ?_ code s
    obtain rfl | rfl | rfl | rfl := named <;> decide

/-- Settles O28: a code is unlisted, a length wrong, or the command judged. -/
theorem refusedCommandsChangeNothing : Obligations.RefusedCommandsChangeNothing := by
  unfold Obligations.RefusedCommandsChangeNothing
  intro code f s
  have refuses : (commandAnswer code f s).Refuses code s := by
    by_cases unlisted : code = 0 ∨ 30 ≤ code
    · rw [commandAnswer_unlisted unlisted]
      exact refuses_refuse (by decide) code s
    · have one : 1 ≤ code := by omega
      have last : code ≤ 29 := by omega
      cases size : lengthAllowed code (f.length + 1) with
      | false =>
        rw [commandAnswer_length one last size]
        exact refuses_refuse (by decide) code s
      | true =>
        obtain judged | ⟨commit, i, e⟩ := commandAnswer_judged one last size (s := s)
        · exact refuses_judged judged code
        · rw [e]
          exact fun _ => ⟨rfl, fun other => absurd rfl other, fun _ => ⟨commit, rfl⟩⟩
  exact refuses

/-! ## The RESPONSE (R157, R186) -/

/-- The RESPONSE of a code and an answer. -/
def responseOf (own code : Byte) (a : Answer) : Frame :=
  mkFrame kindResponse own (code :: BitVec.ofNat 8 a.result.code :: a.data)

theorem place_response (own code : Byte) (a : Answer) : (State.place own code a).response = some (responseOf own code a) := rfl

section Response

variable (own code : Byte) {a : Answer} (fits : a.data.length ≤ 55)

theorem responseOf_kind : (responseOf own code a).getD 0 0 = 0x50#8 := by
  simp [responseOf, mkFrame, withCheck, kindResponse]

theorem responseOf_sum : (responseOf own code a).foldl (· + ·) 0 = 0 := frameSum_withCheck _

theorem responseOf_result : ((responseOf own code a).getD 4 0).toNat = a.result.code := by
  have byte : (responseOf own code a).getD 4 0 = BitVec.ofNat 8 a.result.code := rfl
  rw [byte]
  cases a.result <;> rfl

include fits

theorem responseOf_len : ((responseOf own code a).getD 2 0).toNat = a.data.length + 2 := by
  have byte : (responseOf own code a).getD 2 0 = BitVec.ofNat 8 (a.data.length + 2) := rfl
  rw [byte, BitVec.toNat_ofNat]
  omega

theorem responseOf_length : (responseOf own code a).length = ((responseOf own code a).getD 2 0).toNat + 4 := by
  rw [responseOf_len own code fits]
  simp [responseOf, mkFrame, withCheck]

end Response

/-- What the result of a payload's judgement says of the payload, by its code and length. -/
def ResultSays (p : List Byte) (s : State) (result : Nat) : Prop :=
  (p = [] → result = 2) ∧
  ∀ (code : Byte) (fields : List Byte), p = code :: fields →
    (code.toNat = 0 ∨ 30 ≤ code.toNat → result = 1) ∧
    (1 ≤ code.toNat → code.toNat ≤ 29 →
      (lengthAllowed code.toNat p.length = false → result = 2) ∧
      (lengthAllowed code.toNat p.length = true →
        result = (commandAnswer code.toNat fields s).result.code ∧ result ≠ 1 ∧ result ≠ 2 ∧ result ≤ 7))

/-- The answer a payload is given (R165, R167). -/
def payloadAnswer (p : List Byte) (s : State) : Answer :=
  match p with
  | [] => refuse .length s
  | code :: fields => commandAnswer code.toNat fields s

theorem runCommand_eq (s : State) (p : List Byte) :
    s.runCommand p = State.place s.ownAddress (p.getD 0 0) (payloadAnswer p s) := by
  cases p <;> rfl

/-- Data that fit a frame: none with a refusal but the byte of CURVE. -/
def Answer.DataFit (a : Answer) : Prop :=
  a.data.length ≤ 55 ∧ (a.result.code ≠ 0 → a.data.length + 2 = if a.result.code = 7 then 3 else 2)

theorem dataFit_refuse {r : Result} (other : r ≠ .curve) (s : State) : (refuse r s).DataFit := by
  refine ⟨by simp [refuse], fun _ => ?_⟩
  cases r <;> simp_all [refuse, Result.code]

theorem judged_says {s : State} {a : Answer} (h : a.Judged s) :
    a.DataFit ∧ a.result.code ≠ 1 ∧ a.result.code ≠ 2 ∧ a.result.code ≤ 7 := by
  obtain ⟨done, fits⟩ | ⟨r, named, rfl⟩ := h
  · exact ⟨⟨fits, fun refused => absurd (by rw [done]; rfl) refused⟩, by simp [done, Result.code]⟩
  · obtain rfl | rfl | rfl | rfl := named <;> exact ⟨dataFit_refuse (by decide) s, by simp [refuse, Result.code]⟩

/-- The judgement of every payload: its result and the data it leaves. -/
theorem payloadAnswer_says (p : List Byte) (s : State) :
    (payloadAnswer p s).DataFit ∧ ResultSays p s (payloadAnswer p s).result.code := by
  cases p with
  | nil => exact ⟨dataFit_refuse (by decide) s, fun _ => rfl, fun _ _ absurd => nomatch absurd⟩
  | cons code fields =>
    suffices outcome : (payloadAnswer (code :: fields) s).DataFit ∧
        (code.toNat = 0 ∨ 30 ≤ code.toNat → (payloadAnswer (code :: fields) s).result.code = 1) ∧
        (1 ≤ code.toNat → code.toNat ≤ 29 →
          (lengthAllowed code.toNat (fields.length + 1) = false → (payloadAnswer (code :: fields) s).result.code = 2) ∧
          (lengthAllowed code.toNat (fields.length + 1) = true →
            (payloadAnswer (code :: fields) s).result.code ≠ 1 ∧ (payloadAnswer (code :: fields) s).result.code ≠ 2 ∧
              (payloadAnswer (code :: fields) s).result.code ≤ 7)) by
      obtain ⟨fit, unknown, listed⟩ := outcome
      refine ⟨fit, nofun, fun _ _ same => ?_⟩
      obtain ⟨rfl, rfl⟩ := List.cons.inj same
      exact ⟨unknown, fun one last => ⟨(listed one last).1, fun size => ⟨rfl, (listed one last).2 size⟩⟩⟩
    by_cases unlisted : code.toNat = 0 ∨ 30 ≤ code.toNat
    · have e : payloadAnswer (code :: fields) s = refuse .unknown s := commandAnswer_unlisted unlisted fields s
      rw [e]
      exact ⟨dataFit_refuse (by decide) s, fun _ => rfl, fun one last => by omega⟩
    · have one : 1 ≤ code.toNat := by omega
      have last : code.toNat ≤ 29 := by omega
      cases size : lengthAllowed code.toNat (fields.length + 1) with
      | false =>
        have e : payloadAnswer (code :: fields) s = refuse .length s := commandAnswer_length one last size s
        rw [e]
        exact ⟨dataFit_refuse (by decide) s, fun h => absurd h unlisted, fun _ _ => ⟨fun _ => rfl, nofun⟩⟩
      | true =>
        obtain judged | ⟨_, i, e⟩ := commandAnswer_judged one last size (s := s)
        · obtain ⟨fit, known, allowed, named⟩ := judged_says judged
          exact ⟨fit, fun h => absurd h unlisted, fun _ _ => ⟨nofun, fun _ => ⟨known, allowed, named⟩⟩⟩
        · have e' : payloadAnswer (code :: fields) s = { result := .curve, data := b8 i, state := s } := e
          rw [e']
          exact ⟨⟨by simp, fun _ => rfl⟩, fun h => absurd h unlisted, fun _ _ => ⟨nofun, fun _ => by simp [Result.code]⟩⟩

/-- Settles O29: the bytes of the RESPONSE, and what its result says. -/
theorem responsesFitAFrame : Obligations.ResponsesFitAFrame := by
  unfold Obligations.ResponsesFitAFrame
  intro p s
  obtain ⟨⟨fits, data⟩, outcome⟩ := payloadAnswer_says p s
  have len := responseOf_len s.ownAddress (p.getD 0 0) fits
  refine ⟨responseOf s.ownAddress (p.getD 0 0) (payloadAnswer p s), by rw [runCommand_eq, place_response],
    responseOf_kind _ _, rfl, responseOf_length _ _ fits, ?_, ?_, rfl, responseOf_sum _ _, ?_⟩
  · rw [len]
    omega
  · rw [len]
    omega
  · simp only [responseOf_result, len]
    exact ⟨outcome.1, outcome.2, data⟩

end Sys2Proof.Machine

/-! SUPPORT. The arithmetic: a quotient rounded once, and the stages of an air conversion: O45 and O47. -/

namespace Sys2Proof.Machine

open Sys2Proof Slice0

/-! ## Rounding (R63) -/

/-- Settles O45: the quotient and the remainder decide each mode. -/
theorem quotientsAreRoundedOnce : Obligations.QuotientsAreRoundedOnce := by
  unfold Obligations.QuotientsAreRoundedOnce
  intro a b pos
  have split : b * (a / b) + a % b = a := Nat.div_add_mod a b
  have rest : a % b < b := Nat.mod_lt a pos
  have next : (a / b + 1) * b = b * (a / b) + b := by ring
  have same : a / b * b = b * (a / b) := Nat.mul_comm _ _
  simp only [roundQuotient]
  by_cases exact : a % b = 0
  · simp only [if_pos exact, same, next]
    omega
  · simp only [if_neg exact, same, next]
    refine ⟨by omega, by omega, ?_⟩
    split_ifs with below more even <;> simp only [same, next] <;> omega

/-! ## One stage of a conversion (R66, R69, R70, R73, R75) -/

section Stages

variable {a : Arithmetic} {c : Curve} {t rh : Int} {v w : Conversion}

/-- Stage 2 goes on with T limited to the span, unless OVERRANGE_T stops it. -/
theorem spanStage_limited (law : c.Lawful) (go : t < c.base ∨ c.top < t → a.masked.has .overrangeT = true) :
    spanStage a c t rh v =
      humidityStage a c (max c.base (min c.top t)) rh
        (if t < c.base ∨ c.top < t then v.raise .overrangeT else v) := by
  have span : c.base ≤ c.top := by
    have two := law.two_le
    rw [← c.knot_zero]
    exact (law.knot_lt (by omega)).le
  unfold spanStage
  by_cases outside : t < c.base ∨ c.top < t
  · have limit : max c.base (min c.top t) = if t < c.base then c.base else c.top := by split_ifs <;> omega
    simp only [if_pos outside, if_pos (go outside), limit]
  · have limit : max c.base (min c.top t) = t := by omega
    simp only [if_neg outside, limit]

theorem spanStage_stopped (outside : t < c.base ∨ c.top < t) (unmasked : ¬ a.masked.has .overrangeT = true) :
    spanStage a c t rh v = (v.raise .overrangeT).stop .overrangeT := by
  simp only [spanStage, if_pos outside, if_neg unmasked]

/-- Stage 3 goes on with RH limited to 0 … 10000, unless SATURATED or NEGATIVE_RH stops it. -/
theorem humidityStage_limited (wet : 10000 < rh → a.masked.has .saturated = true)
    (negative : rh < 0 → a.masked.has .negativeRh = true) :
    humidityStage a c t rh v =
      pressureStage a c t (max 0 (min 10000 rh))
        (if 10000 < rh then v.raise .saturated else if rh < 0 then v.raise .negativeRh else v) := by
  unfold humidityStage
  by_cases above : 10000 < rh
  · have limit : max 0 (min 10000 rh) = 10000 := by omega
    simp only [if_pos above, if_pos (wet above), limit]
  · by_cases under : rh < 0
    · have limit : max 0 (min 10000 rh) = 0 := by omega
      simp only [if_neg above, if_pos under, if_pos (negative under), limit]
    · have limit : max 0 (min 10000 rh) = rh := by omega
      simp only [if_neg above, if_neg under, limit]

theorem humidityStage_saturated (above : 10000 < rh) (unmasked : ¬ a.masked.has .saturated = true) :
    humidityStage a c t rh v = (v.raise .saturated).stop .saturated := by
  simp only [humidityStage, if_pos above, if_neg unmasked]

theorem humidityStage_negative (under : rh < 0) (unmasked : ¬ a.masked.has .negativeRh = true) :
    humidityStage a c t rh v = (v.raise .negativeRh).stop .negativeRh := by
  simp only [humidityStage, if_neg (show ¬ 10000 < rh by omega), if_pos under, if_neg unmasked]

theorem dewStage_stopped {e : Nat} (low : e < c.es 0) (unmasked : ¬ a.masked.has .lowVapour = true) :
    dewStage a c t e v = (v.raise .lowVapour).stop .lowVapour := by
  simp only [dewStage, if_pos low, if_neg unmasked]

theorem dewStage_floor {e : Nat} (low : e < c.es 0) (masked : a.masked.has .lowVapour = true) :
    dewStage a c t e v = { v.raise .lowVapour with dew := some (min c.base t) } := by
  simp only [dewStage, if_pos low, if_pos masked]

theorem dewStage_inverted {e : Nat} (high : c.es 0 ≤ e) :
    dewStage a c t e v = { v with dew := some (min (invertCurve a.mode c e) t) } := by
  simp only [dewStage, if_neg (show ¬ e < c.es 0 by omega)]

/-! ## What a conversion ends with -/

/-- `w` is an end of a conversion that stood at `v`, with T at `t`: sticky flags only join, a dew point lies in the span and not
above T with nothing posted, and without one an unmasked condition is set and posted. -/
structure Conversion.Ends (a : Arithmetic) (c : Curve) (t : Int) (v w : Conversion) : Prop where
  sticky : w.sticky &&& v.sticky = v.sticky
  dew : ∀ d, w.dew = some d → c.base ≤ d ∧ d ≤ c.top ∧ d ≤ t ∧ w.posted = v.posted
  stopped : w.dew = none →
    ∃ k : Condition, a.masked.getLsbD k.code = false ∧ w.sticky.getLsbD k.code = true ∧ w.posted = v.posted ||| k.bit

theorem Condition.getLsbD_bit (k : Condition) : k.bit.getLsbD k.code = true := by cases k <;> rfl

theorem Conversion.ends_stop {k : Condition} (unmasked : ¬ a.masked.has k = true) :
    Conversion.Ends a c t v ((v.raise k).stop k) where
  sticky := by
    simp only [Conversion.raise, Conversion.stop]
    ext i
    simp +contextual
  dew := nofun
  stopped _ := ⟨k, by simpa [Conditions.has] using unmasked, by simp [Conversion.raise, Conversion.stop, k.getLsbD_bit], rfl⟩

/-- A condition met on the way sets its flag and leaves the rest. -/
theorem Conversion.Ends.of_raise {k : Condition} (h : Conversion.Ends a c t (v.raise k) w) : Conversion.Ends a c t v w where
  sticky := by
    have kept := h.sticky
    simp only [Conversion.raise] at kept
    ext i below
    have bit := congrArg (·.getLsbD i) kept
    simp only [BitVec.getLsbD_and, BitVec.getLsbD_or] at bit
    simp only [← BitVec.getLsbD_eq_getElem, BitVec.getLsbD_and]
    revert bit
    cases v.sticky.getLsbD i <;> simp
  dew := h.dew
  stopped := h.stopped

/-- Stages 6 and 7, with T in the span and e at most the curve's last pressure. -/
theorem ends_dewStage (law : c.Lawful) (low : c.base ≤ t) (high : t ≤ c.top) {e : Nat} (fits : e ≤ c.es (c.n - 1)) :
    Conversion.Ends a c t v (dewStage a c t e v) := by
  have two := law.two_le
  obtain below | above := lt_or_ge e (c.es 0)
  · by_cases masked : a.masked.has .lowVapour = true
    · rw [dewStage_floor below masked]
      refine Conversion.Ends.of_raise (k := .lowVapour) ⟨by simp, fun d same => ?_, nofun⟩
      obtain rfl := Option.some.inj same
      exact ⟨by omega, by omega, by omega, rfl⟩
    · rw [dewStage_stopped below masked]
      exact Conversion.ends_stop masked
  · rw [dewStage_inverted above]
    refine ⟨by simp, fun d same => ?_, nofun⟩
    obtain rfl := Option.some.inj same
    obtain ⟨lower, upper⟩ := invertCurve_bounds a.mode law fits
    have inside := interval_add_two_le (f := c.es) (x := e) two
    have floor : c.base ≤ c.knot (interval c.es c.n e) := by
      rw [Curve.knot]
      have : (0 : Int) ≤ (interval c.es c.n e : Int) * c.step := by positivity
      omega
    exact ⟨by omega, by omega, by omega, rfl⟩

/-- Stages 4 to 7, with T in the span and RH in 0 … 10000. -/
theorem ends_pressureStage (law : c.Lawful) (low : c.base ≤ t) (high : t ≤ c.top) (most : rh ≤ 10000) :
    Conversion.Ends a c t v (pressureStage a c t rh v) := by
  have two := law.two_le
  have inside := interval_add_two_le (f := c.knot) (x := t) two
  refine ends_dewStage law low high ((vapourPressure_le a.mode _ most).trans ?_)
  exact (saturationAt_bounds a.mode law high).2.trans (law.es_le (by omega) (by omega))

/-- Stages 3 to 7, with T in the span. -/
theorem ends_humidityStage (law : c.Lawful) (low : c.base ≤ t) (high : t ≤ c.top) :
    Conversion.Ends a c t v (humidityStage a c t rh v) := by
  by_cases wet : 10000 < rh → a.masked.has .saturated = true
  · by_cases negative : rh < 0 → a.masked.has .negativeRh = true
    · rw [humidityStage_limited wet negative]
      have ends := fun u : Conversion => ends_pressureStage (a := a) (v := u) law low high (rh := max 0 (min 10000 rh)) (by omega)
      split_ifs
      · exact (ends _).of_raise
      · exact (ends _).of_raise
      · exact ends v
    · obtain ⟨under, unmasked⟩ := Classical.not_imp.mp negative
      rw [humidityStage_negative under unmasked]
      exact Conversion.ends_stop unmasked
  · obtain ⟨above, unmasked⟩ := Classical.not_imp.mp wet
    rw [humidityStage_saturated above unmasked]
    exact Conversion.ends_stop unmasked

/-- The whole conversion from stage 2 on. -/
theorem ends_spanStage (law : c.Lawful) : Conversion.Ends a c (max c.base (min c.top t)) v (spanStage a c t rh v) := by
  have span : c.base ≤ c.top := by
    have two := law.two_le
    rw [← c.knot_zero]
    exact (law.knot_lt (by omega)).le
  by_cases go : t < c.base ∨ c.top < t → a.masked.has .overrangeT = true
  · rw [spanStage_limited law go]
    have ends := fun u : Conversion =>
      ends_humidityStage (a := a) (v := u) (rh := rh) law (t := max c.base (min c.top t)) (by omega) (by omega)
    split_ifs
    · exact (ends _).of_raise
    · exact ends v
  · obtain ⟨outside, unmasked⟩ := Classical.not_imp.mp go
    rw [spanStage_stopped outside unmasked]
    exact Conversion.ends_stop unmasked

end Stages

/-- Settles O47: each stage goes on or stops, and every end keeps the span. -/
theorem dewPointsStayInTheSpan : Obligations.DewPointsStayInTheSpan := by
  unfold Obligations.DewPointsStayInTheSpan
  intro a c sticky deferred p codeA codeB law v calibrated t1 h1 masked stopped outside t2 flags2 flags3 e
  have whole : v = spanStage a c t1 h1 { sticky := sticky, posted := deferred, dew := none } := rfl
  have ends : Conversion.Ends a c t2 { sticky := sticky, posted := deferred, dew := none } v := ends_spanStage law
  refine ⟨fun out unmasked => whole.trans (spanStage_stopped out unmasked), fun go => ?_, ends.dew, ends.stopped, ends.sticky⟩
  have inSpan : v = humidityStage a c t2 h1 { sticky := flags2, posted := deferred, dew := none } := by
    rw [whole, spanStage_limited law go]
    simp only [flags2]
    split_ifs <;> rfl
  refine ⟨fun above unmasked => inSpan.trans (humidityStage_saturated above unmasked),
    fun under unmasked => inSpan.trans (humidityStage_negative under unmasked), fun wet negative => ?_⟩
  have atDew : v = dewStage a c t2 e { sticky := flags3, posted := deferred, dew := none } := by
    rw [inSpan, humidityStage_limited wet negative]
    simp only [flags3]
    split_ifs <;> rfl
  exact ⟨fun low unmasked => atDew.trans (dewStage_stopped low unmasked),
    fun low floor => atDew.trans (dewStage_floor low floor), fun high => atDew.trans (dewStage_inverted high)⟩

end Sys2Proof.Machine

/-! SUPPORT. Commands that set and clear flags, restart the part and report records: O37, O41, O42, O44 and O31. -/

namespace Sys2Proof.Machine

open Sys2Proof Slice0

/-! ## SET ARITHMETIC and CLEAR STICKY (R64, R66) -/

theorem maskOf_toNat (b : Bool) : maskOf b.toNat = some b := by cases b <;> rfl

theorem maskOf_out {n : Nat} (h : 1 < n) : maskOf n = none := by
  match n, h with
  | n + 2, _ => rfl

theorem roundingOf_code (m : Rounding) : Rounding.ofCode m.code = some m := by cases m <;> rfl

theorem roundingOf_out {n : Nat} (h : 2 < n) : Rounding.ofCode n = none := by
  match n, h with
  | n + 3, _ => rfl

theorem masksOf_out {f : List Byte} {i : Nat}
    (h : 1 < u8 f i ∨ 1 < u8 f (i + 1) ∨ 1 < u8 f (i + 2) ∨ 1 < u8 f (i + 3)) : masksOf f i = none := by
  unfold masksOf
  split
  · next a b c d =>
    rcases h with h | h | h | h <;> simp_all [maskOf_out h]
  · rfl

/-- A set of four written bit by bit, the first bit lowest. -/
theorem bits_append (m : BitVec 4) :
    BitVec.ofBool (m.getLsbD 3) ++ BitVec.ofBool (m.getLsbD 2) ++ BitVec.ofBool (m.getLsbD 1) ++ BitVec.ofBool (m.getLsbD 0)
      = m := by
  revert m
  decide

theorem setArithmetic_refused {f : List Byte} (size : f.length = 5)
    (h : 2 < u8 f 0 ∨ 1 < u8 f 1 ∨ 1 < u8 f 2 ∨ 1 < u8 f 3 ∨ 1 < u8 f 4) (s : State) :
    setArithmetic f s = refuse .range s := by
  rw [setArithmetic, sized_right size]
  rcases h with mode | masks
  · rw [roundingOf_out mode]
  · rw [masksOf_out (i := 1) masks]
    cases Rounding.ofCode (u8 f 0) <;> rfl

/-- The state and answer of an accepted SET ARITHMETIC (R64). -/
def arithmeticSet (s : State) (mode : Rounding) (masked : Conditions) : State :=
  { s with
    arith := { mode := mode, masked := masked }
    deferred := deferredAfter s.arith.masked masked s.sticky s.deferred }

theorem setArithmetic_done (mode : Rounding) (m : Conditions) (s : State) :
    setArithmetic
        (b8 mode.code ++ flag (m.getLsbD 0) ++ flag (m.getLsbD 1) ++ flag (m.getLsbD 2) ++ flag (m.getLsbD 3)) s
      = done (arithmeticField (arithmeticSet s mode m)) (arithmeticSet s mode m) := by
  have byte (b : Bool) : (BitVec.ofNat 8 b.toNat).toNat = b.toNat := by cases b <;> rfl
  have code : (BitVec.ofNat 8 mode.code).toNat = mode.code := by cases mode <;> rfl
  refine (sized_right rfl s _).trans ?_
  simp only [masksOf, flag, b8, u8, List.cons_append, List.nil_append, List.getD_cons_zero, List.getD_cons_succ, byte, code,
    maskOf_toNat, roundingOf_code, bits_append, Nat.reduceAdd]
  rfl

/-- Settles O37: the marks are those of `deferredAfter`, read bit by bit. -/
theorem arithmeticIsSetAndCleared : Obligations.ArithmeticIsSetAndCleared := by
  unfold Obligations.ArithmeticIsSetAndCleared
  intro s u h
  refine ⟨commandRow_done h 21 [] rfl (sized_right rfl u _),
    fun f size bad => commandRow_refused h 19 f (setArithmetic_refused size bad u), fun mode masked => ?_⟩
  refine ⟨deferredAfter u.arith.masked masked u.sticky u.deferred,
    commandRow_done h 19 _ rfl (setArithmetic_done mode masked u), fun k small => ?_⟩
  have bit : (deferredAfter u.arith.masked masked u.sticky u.deferred).getLsbD k =
      ((u.deferred.getLsbD k || u.arith.masked.getLsbD k && u.sticky.getLsbD k) && !masked.getLsbD k) := by
    simp [deferredAfter, small]
  rw [bit]
  refine ⟨fun on => by simp [on], fun off before sticky => by simp [off, before, sticky], fun off untouched => ?_⟩
  rcases untouched with same | clear
  · simp [off, same]
  · simp [off, clear]

/-! ## The notice reads and ACKNOWLEDGE NOTICES (R182, R183) -/

/-- Settles O41: the forms of the read, and the posting of each kind. -/
theorem noticeReadsReportThePendingSets : Obligations.NoticeReadsReportThePendingSets := by
  unfold Obligations.NoticeReadsReportThePendingSets
  intro s u h
  refine ⟨commandRow_done h 28 [1] rfl (sized_right rfl u _), commandRow_done h 28 [0] rfl (sized_right rfl u _),
    fun form neither => commandRow_refused h 28 [form] ?_, fun v x => by cases x <;> rfl⟩
  refine (sized_right rfl u _).trans ?_
  split
  · next zero => simp at zero; simp [zero] at neither
  · next one => simp at one; simp [one] at neither
  · rfl

/-- Settles O42: the armed subjects are taken from the pending sets. -/
theorem acknowledgeRemovesTheArmedSubjects : Obligations.AcknowledgeRemovesTheArmedSubjects := by
  unfold Obligations.AcknowledgeRemovesTheArmedSubjects
  intro s u h
  exact commandRow_done h 29 [] rfl (sized_right rfl u _)

/-! ## RESTART FULL (R174) -/

/-- Settles O44: every field takes its power-on value but those that the restart keeps. -/
theorem restartFullReturnsToPowerOn : Obligations.RestartFullReturnsToPowerOn := by
  unfold Obligations.RestartFullReturnsToPowerOn
  intro s u h
  have judged : restart [2] u = done ([2] ++ b24 u.counter) u.restartFull := sized_right rfl u _
  have own : u.restartFull.ownAddress = u.ownAddress := rfl
  refine (commandRow_done h 2 [2] own judged).trans ?_
  obtain ⟨_, _, slot, e⟩ := h
  have response : u.response = none := by rw [e]; exact slot
  have station : u.stationAsm = .idle := by rw [e]
  have outputs : Vector.replicate 4 { State.reset.output 0 with start := u.counter } =
      Vector.replicate 4 (Output.powerOn u.counter) := rfl
  congr 1
  unfold State.restartFull
  rw [outputs, response, station]
  cases u.fieldAsm <;> rfl

/-! ## READ ZONE, WINDOW, OUTPUT and WET INPUTS (R89, R109, R139, R147) -/

/-- A zone or unit number written in one byte reads back. -/
theorem u8_b8 {n : Nat} (h : n < 256) (f : List Byte) : u8 (b8 n ++ f) 0 = n := by
  simp [b8]
  omega

theorem withZone_b8 (z : Fin 24) (s : State) (k : Fin 24 → Answer) : withZone (u8 (b8 z) 0) s k = k z := by
  have e : u8 (b8 z) 0 = z := by simpa using u8_b8 (n := z) (by omega) []
  rw [e, withZone_fin]

theorem withUnit_b8 (i : Fin 4) (s : State) (k : Fin 4 → Answer) : withUnit (u8 (b8 i) 0) s k = k i := by
  have e : u8 (b8 i) 0 = i := by simpa using u8_b8 (n := i) (by omega) []
  rw [e, withUnit_fin]

/-- The bits of a set of zones built zone by zone. -/
theorem getLsbD_foldl_twoPow (p : Fin 24 → Bool) (l : List (Fin 24)) (b : BitVec 24) (z : Fin 24) :
    (l.foldl (fun b y => if p y then b ||| BitVec.twoPow 24 y else b) b).getLsbD z = (b.getLsbD z || decide (z ∈ l) && p z) := by
  induction l generalizing b with
  | nil => simp
  | cons y l ih =>
    have bit : (if p y then b ||| BitVec.twoPow 24 y else b).getLsbD z = (b.getLsbD z || decide (z = y) && p z) := by
      by_cases same : z = y
      · subst same
        cases p z <;> simp
      · have other : ¬ (z : Nat) = y := fun e => same (Fin.ext e)
        cases p y <;> simp [same, other]
    rw [List.foldl_cons, ih, bit]
    by_cases same : z = y
    · subst same
      cases p z <;> simp
    · simp [same]

theorem foldl_twoPow_eq_ofFnLE (p : Fin 24 → Bool) :
    allZones.foldl (fun b y => if p y then b ||| BitVec.twoPow 24 y else b) 0 = BitVec.ofFnLE p := by
  refine BitVec.eq_of_getLsbD_eq fun i small => ?_
  have bit := getLsbD_foldl_twoPow p allZones 0 ⟨i, small⟩
  simpa [allZones, BitVec.getLsbD_ofFnLE, small] using bit

theorem wetZones_eq (s : State) : s.wetZones = BitVec.ofFnLE fun z : Fin 24 => (s.zone z).wet :=
  foldl_twoPow_eq_ofFnLE _

/-- UNKNOWN is −32768 (R187). -/
theorem known_none : known none = [0x80, 0] := by decide

/-- The block of a wet input in READ WET INPUTS, byte by byte (R139). -/
def wetField (r : WetInput) : List Byte :=
  (match r.zone with
    | none => b8 255
    | some z => b8 z)
    ++ flag r.wetLevel ++ b8 r.qualify ++ b8 r.selection.code ++ b8 r.state.code ++ flag r.pin ++ b24 r.capture
    ++ deadlineField r.deadline

theorem wetField_eq (r : WetInput) : wetHead r ++ b8 r.pin.toNat ++ wetTail r = wetField r := by
  unfold wetField wetHead wetTail
  rw [← List.append_assoc]
  cases r.zone <;> rfl

theorem slotField_eq (k : Slot) :
    k.field =
      match k with
      | .empty => [0, 0, 0, 0, 0x80, 0]
      | .valid t d _ => [1] ++ b24 t ++ i16 d
      | .void t _ => [2] ++ b24 t ++ [0x80, 0] := by
  cases k with
  | empty => exact congrArg ([0, 0, 0, 0] ++ ·) known_none
  | valid t d e => rfl
  | void t e => exact congrArg ([2] ++ b24 t ++ ·) known_none

/-- The staged set of READ ZONE: an indication, then its values or 0 (R109). -/
def stagedField (t : Option Thresholds) : List Byte :=
  match t with
  | none => [0, 0, 0, 0, 0, 0, 0, 0, 0]
  | some t => [1] ++ b16 t.w ++ b16 t.k ++ b16 t.h ++ b16 t.p

theorem stagedField_eq (t : Option Thresholds) :
    flag t.isSome ++ thresholdsField (t.getD { w := 0, k := 0, h := 0, p := 0 }) = stagedField t := by cases t <;> rfl

/-- The persistence of READ ZONE: an indication, then its value and candidate or 0 (R109). -/
def candidateField (p : Option Persistence) : List Byte :=
  match p with
  | none => [0, 0, 0, 0, 0]
  | some q => [1] ++ b24 q.arming.time ++ b8 q.candidate.state.code

theorem persistenceField_eq (p : Option Persistence) : persistenceField p = candidateField p := by cases p <;> rfl

/-- The record of READ ZONE, its margin formed once (R109). -/
theorem zoneField_eq (s : State) (z : Fin 24) :
    zoneField s z =
      b8 z ++ flag (s.zone z).enabled ++ b16 (s.zone z).age ++ b16 (s.zone z).interval ++ b8 (s.zone z).lookahead
        ++ b16 (s.zone z).grace ++ b16 (s.zone z).active.w ++ b16 (s.zone z).active.k ++ b16 (s.zone z).active.h
        ++ b16 (s.zone z).active.p ++ stagedField (s.zone z).staged
        ++ b8 (s.zone z).state.code ++ known (s.zone z).dew ++ known (s.surfaceMin z)
        ++ known (marginOf (s.surfaceMin z) (s.zone z).dew) ++ known ((s.zone z).projected (s.surfaceMin z))
        ++ b8 (outcomeOf (marginOf (s.surfaceMin z) (s.zone z).dew)).code
        ++ known (s.zone z).trendStart ++ known (s.zone z).slope ++ flag (s.zone z).wet
        ++ deadlineField (s.zone z).trendDeadline ++ candidateField (s.zone z).persistence
        ++ deadlineField (s.zone z).blind := by
  rw [← stagedField_eq, ← persistenceField_eq]
  unfold zoneField
  extract_lets x r
  rw [show thresholdsField x.active = b16 x.active.w ++ b16 x.active.k ++ b16 x.active.h ++ b16 x.active.p from rfl]
  simp only [List.append_assoc]
  rfl

/-- Settles O31: each record byte by byte. -/
theorem readsOfZonesAndUnits : Obligations.ReadsOfZonesAndUnits := by
  unfold Obligations.ReadsOfZonesAndUnits
  intro s u h
  refine ⟨fun n out => ⟨commandRow_refused h 11 [n] ?_, commandRow_refused h 12 [n] ?_⟩,
    fun n out => commandRow_refused h 24 [n] ?_, fun z => ?_, fun z => ?_, fun i => ?_, ?_⟩
  · exact (sized_right rfl u _).trans (withZone_out out u _)
  · exact (sized_right rfl u _).trans (withZone_out out u _)
  · exact (sized_right rfl u _).trans (withUnit_out out u _)
  · refine commandRow_done h 11 _ rfl ?_
    refine (sized_right rfl u _).trans ((withZone_b8 z u _).trans ?_)
    rw [zoneField_eq]
    rfl
  · refine commandRow_done h 12 _ rfl ?_
    refine (sized_right rfl u _).trans ((withZone_b8 z u _).trans ?_)
    rw [windowField, funext slotField_eq] <;> rfl
  · refine commandRow_done h 24 _ rfl ?_
    refine (sized_right rfl u _).trans ((withUnit_b8 i u _).trans ?_)
    have active : (u.output i).activeAt u.counter =
        ((u.output i).enabled && (u.output i).driven && withinDuty (u.output i) u.counter) := by
      rw [Output.activeAt, inDuty_eq]
    have margin : known (if (u.output i).basis = .margin then (u.output i).w else none) =
        if (u.output i).basis = .margin then known (u.output i).w else [0x80, 0] := by
      split
      · rfl
      · exact known_none
    simp only [active, margin]
    rfl
  · refine commandRow_done h 26 _ rfl ?_
    refine (sized_right rfl u _).trans ?_
    rw [wetZones_eq, funext wetField_eq]
    rfl

end Sys2Proof.Machine

/-! SUPPORT. SET OUTPUT and SET OUTPUT MODE: O38. -/

namespace Sys2Proof.Machine

open Sys2Proof Slice0

/-! ## Fields with two values (R187) -/

theorem yesNoOf_two {n : Nat} (h : n ≤ 1) : yesNoOf n = some (decide (n = 1)) := by
  match n, h with
  | 0, _ => rfl
  | 1, _ => rfl

theorem yesNoOf_out {n : Nat} (h : 1 < n) : yesNoOf n = none := by
  match n, h with
  | n + 2, _ => rfl

theorem polarityOf_two {n : Nat} (h : n ≤ 1) : Polarity.ofCode n = some (if n = 0 then .activeHigh else .activeLow) := by
  match n, h with
  | 0, _ => rfl
  | 1, _ => rfl

theorem polarityOf_out {n : Nat} (h : 1 < n) : Polarity.ofCode n = none := by
  match n, h with
  | n + 2, _ => rfl

theorem outputModeOf_two {n : Nat} (h : n ≤ 1) : OutputMode.ofCode n = some (if n = 0 then .auto else .manual) := by
  match n, h with
  | 0, _ => rfl
  | 1, _ => rfl

theorem outputModeOf_out {n : Nat} (h : 1 < n) : OutputMode.ofCode n = none := by
  match n, h with
  | n + 2, _ => rfl

/-- A command that names a unit is refused RANGE when the unit is out of range or its other fields are refused. -/
theorem withUnit_refused {n : Nat} {s : State} {k : Fin 4 → Answer} (h : n < 4 → ∀ i, k i = refuse .range s) :
    withUnit n s k = refuse .range s := by
  obtain high | low := le_or_gt 4 n
  · exact withUnit_out high s k
  · exact (withUnit_fin ⟨n, low⟩ s k).trans (h low _)

/-! ## SET OUTPUT (R145) -/

section SetOutput

variable {f : List Byte} {s : State} {i : Fin 4}

/-- The record of an output with the fields of SET OUTPUT written. -/
def outputWritten (f : List Byte) (o : Output) : Output :=
  { o with
    enabled := decide (u8 f 1 = 1), zones := zoneSet f 2, band := u16 f 5, period := u16 f 7, fallback := u16 f 9
    polarity := if u8 f 11 = 0 then .activeHigh else .activeLow }

/-- The record of an output after SET OUTPUT. -/
def outputSet (f : List Byte) (s : State) (i : Fin 4) : Output :=
  if (s.output i).enabled = false ∧ u8 f 1 = 1 then begun s s.counter (outputWritten f (s.output i))
  else if (s.output i).enabled = true ∧ u8 f 1 = 0 then (outputWritten f (s.output i)).stopped
  else outputWritten f (s.output i)

theorem applyOutput_written (yes : u8 f 1 ≤ 1) :
    s.applyOutput i (outputWritten f (s.output i)) = s.setOutput i (outputSet f s i) := by
  have enabled : (outputWritten f (s.output i)).enabled = decide (u8 f 1 = 1) := rfl
  have code : u8 f 1 = 0 ∨ u8 f 1 = 1 := by omega
  simp only [State.applyOutput, outputSet, enabled]
  cases (s.output i).enabled <;> rcases code with off | on
  · simp [off]
  · simp only [on, decide_true, and_self, if_true]
    exact begin_setOutput s i _
  · simp [off]
  · simp [on]

theorem setOutput_done (size : f.length = 12) (unit : u8 f 0 = i) (yes : u8 f 1 ≤ 1) (polarity : u8 f 11 ≤ 1)
    (range : 50 ≤ u16 f 5 ∧ u16 f 5 ≤ 3000 ∧ 10 ≤ u16 f 7 ∧ u16 f 7 ≤ 6000 ∧ u16 f 9 ≤ 6000) :
    setOutput f s = done (outputField i (outputSet f s i)) (s.setOutput i (outputSet f s i)) := by
  have new : (s.setOutput i (outputSet f s i)).output i = outputSet f s i := State.setOutput_output_same s i _
  rw [setOutput, sized_right size, unit, withUnit_fin, yesNoOf_two yes, polarityOf_two polarity]
  simp only [if_pos range]
  have applied := applyOutput_written (s := s) (i := i) yes
  unfold outputWritten at applied
  rw [applied, new]

theorem setOutput_refused (size : f.length = 12)
    (out : ¬ (u8 f 0 < 4 ∧ u8 f 1 ≤ 1 ∧ (50 ≤ u16 f 5 ∧ u16 f 5 ≤ 3000) ∧ (10 ≤ u16 f 7 ∧ u16 f 7 ≤ 6000) ∧
      u16 f 9 ≤ 6000 ∧ u8 f 11 ≤ 1)) : setOutput f s = refuse .range s := by
  rw [setOutput, sized_right size]
  refine withUnit_refused fun unit i => ?_
  obtain yes | no := le_or_gt (u8 f 1) 1
  · obtain polarity | other := le_or_gt (u8 f 11) 1
    · rw [yesNoOf_two yes, polarityOf_two polarity]
      refine if_neg fun range => ?_
      obtain ⟨band, bands, period, periods, fallback⟩ := range
      exact out ⟨unit, yes, ⟨band, bands⟩, ⟨period, periods⟩, fallback, polarity⟩
    · rw [polarityOf_out other]
      cases yesNoOf (u8 f 1) <;> rfl
  · rw [yesNoOf_out no]

theorem flag_two {n : Nat} (two : n ≤ 1) : flag (decide (n = 1)) = b8 n := by
  match n, two with
  | 0, _ => rfl
  | 1, _ => rfl

theorem polarity_two {n : Nat} (two : n ≤ 1) : Polarity.code (if n = 0 then .activeHigh else .activeLow) = n := by
  match n, two with
  | 0, _ => rfl
  | 1, _ => rfl

theorem getLsbD_three (x y z : Byte) (i : Nat) :
    (x ++ y ++ z).getLsbD i =
      if i < 8 then z.getLsbD i else if i - 8 < 8 then y.getLsbD (i - 8) else x.getLsbD (i - 8 - 8) := by
  rw [BitVec.getLsbD_append, BitVec.getLsbD_append]

theorem b24_append (x y z : Byte) : b24 (x ++ y ++ z) = [x, y, z] := by
  simp only [b24, List.cons.injEq, and_true]
  refine ⟨?_, ?_, ?_⟩ <;> ext i small <;> rw [BitVec.getElem_extractLsb', ← BitVec.getLsbD_eq_getElem small]
  · refine (getLsbD_three x y z _).trans ?_
    rw [if_neg (by omega), if_neg (by omega), show 16 + i - 8 - 8 = i by omega]
  · refine (getLsbD_three x y z _).trans ?_
    rw [if_neg (by omega), if_pos (by omega), show 8 + i - 8 = i by omega]
  · refine (getLsbD_three x y z _).trans ?_
    rw [if_pos (by omega), Nat.zero_add]

/-- The fields of SET OUTPUT written out again are its payload. -/
theorem outputField_written (size : f.length = 12) (yes : u8 f 1 ≤ 1) (polarity : u8 f 11 ≤ 1) :
    b8 (u8 f 0) ++ flag (decide (u8 f 1 = 1)) ++ b24 (zoneSet f 2) ++ b16 (u16 f 5) ++ b16 (u16 f 7) ++ b16 (u16 f 9)
      ++ b8 (Polarity.code (if u8 f 11 = 0 then .activeHigh else .activeLow)) = f := by
  rw [flag_two yes, polarity_two polarity]
  match f, size with
  | [_, _, _, _, _, _, _, _, _, _, _, _], _ => simp [zoneSet, b24_append]

/-- The record of an output after SET OUTPUT holds the fields written and what runs. -/
theorem outputField_set (size : f.length = 12) (unit : u8 f 0 = i) (yes : u8 f 1 ≤ 1) (polarity : u8 f 11 ≤ 1) :
    outputField i (outputSet f s i) =
      f ++ b8 (outputSet f s i).mode.code ++ b16 (outputSet f s i).manual ++ b16 (outputSet f s i).periodInForce
        ++ b16 (outputSet f s i).dutyInForce ++ b24 (outputSet f s i).start ++ deadlineField (outputSet f s i).boundary
        ++ b8 (outputSet f s i).basis.code := by
  have kept : (outputSet f s i).enabled = decide (u8 f 1 = 1) ∧ (outputSet f s i).zones = zoneSet f 2 ∧
      (outputSet f s i).band = u16 f 5 ∧ (outputSet f s i).period = u16 f 7 ∧ (outputSet f s i).fallback = u16 f 9 ∧
      (outputSet f s i).polarity = if u8 f 11 = 0 then .activeHigh else .activeLow := by
    unfold outputSet
    split
    · exact ⟨rfl, rfl, rfl, rfl, rfl, rfl⟩
    · split <;> exact ⟨rfl, rfl, rfl, rfl, rfl, rfl⟩
  obtain ⟨enabled, zones, band, period, fallback, pol⟩ := kept
  simp only [outputField, enabled, zones, band, period, fallback, pol]
  rw [← unit, outputField_written size yes polarity]

end SetOutput

/-! ## SET OUTPUT MODE (R146) -/

theorem setOutputMode_done {f : List Byte} {i : Fin 4} (size : f.length = 4) (unit : u8 f 0 = i) (mode : u8 f 1 ≤ 1)
    (range : u16 f 2 ≤ 6000) (s : State) :
    setOutputMode f s =
      done (f ++ b16 (s.output i).dutyInForce ++ b8 (s.output i).basis.code)
        (s.setOutput i { s.output i with mode := if u8 f 1 = 0 then .auto else .manual, manual := u16 f 2 }) := by
  have code : OutputMode.code (if u8 f 1 = 0 then .auto else .manual) = u8 f 1 := by
    have two : u8 f 1 = 0 ∨ u8 f 1 = 1 := by omega
    rcases two with e | e <;> simp [e, OutputMode.code]
  have echoed : b8 (u8 f 0) ++ b8 (u8 f 1) ++ b16 (u16 f 2) = f := by
    match f, size with
    | [_, _, _, _], _ => simp
  rw [setOutputMode, sized_right size, unit, withUnit_fin, outputModeOf_two mode]
  simp only [if_pos range, code, ← unit, echoed]

theorem setOutputMode_refused {f : List Byte} (size : f.length = 4) (out : ¬ (u8 f 0 < 4 ∧ u8 f 1 ≤ 1 ∧ u16 f 2 ≤ 6000))
    (s : State) : setOutputMode f s = refuse .range s := by
  rw [setOutputMode, sized_right size]
  refine withUnit_refused fun unit i => ?_
  obtain mode | other := le_or_gt (u8 f 1) 1
  · rw [outputModeOf_two mode]
    exact if_neg fun range => out ⟨unit, mode, range⟩
  · rw [outputModeOf_out other]

/-- Settles O38: the ranges decide between the refusal and the written record. -/
theorem outputSettingsAreWritten : Obligations.OutputSettingsAreWritten := by
  unfold Obligations.OutputSettingsAreWritten
  intro s u h
  refine ⟨fun f size => ⟨fun out => commandRow_refused h 22 f (setOutput_refused size out), fun i fits unit => ?_⟩,
    fun f size => ⟨fun out => commandRow_refused h 23 f (setOutputMode_refused size out u), fun i fits unit => ?_⟩⟩
  · obtain ⟨_, yes, ⟨band, bands⟩, ⟨period, periods⟩, fallback, polarity⟩ := fits
    refine commandRow_done h 22 f rfl ((setOutput_done size unit yes polarity
      ⟨band, bands, period, periods, fallback⟩).trans ?_)
    rw [outputField_set size unit yes polarity]
    rfl
  · obtain ⟨_, mode, range⟩ := fits
    exact commandRow_done h 23 f rfl (setOutputMode_done size unit mode range u)

end Sys2Proof.Machine

/-! SUPPORT. ENABLE ZONE, DISABLE ZONE, CLEAR WINDOW and SET WET INPUT: O34 and O39. -/

namespace Sys2Proof.Machine

open Sys2Proof Slice0

/-! ## ENABLE ZONE, DISABLE ZONE and CLEAR WINDOW (R87, R124, R125) -/

section Zones

variable {s u : State} {z : Fin 24}

theorem enableZone_on (on : (u.zone z).enabled = true) :
    enableZone (b8 z) u = done (b8 z ++ b8 (u.zone z).state.code) u := by
  refine (sized_right rfl u _).trans ((withZone_b8 z u _).trans ?_)
  exact if_pos on

theorem enableZone_off (off : (u.zone z).enabled = false) :
    enableZone (b8 z) u =
      done (b8 z ++ b8 (reawakened u.counter (u.zone z)).state.code)
        (u.applyDecision z ((u.zone z).reawakening u.counter (u.surfaceMin z))) := by
  refine (sized_right rfl u _).trans ((withZone_b8 z u _).trans ?_)
  rw [if_neg (by simp [off]), Zone.enable_eq, zoneAnswer, State.applyDecision_zone_same]
  rfl

theorem disableZone_off (off : (u.zone z).enabled = false) :
    disableZone (b8 z) u = done (b8 z ++ b8 (u.zone z).state.code) u := by
  refine (sized_right rfl u _).trans ((withZone_b8 z u _).trans ?_)
  exact if_neg (by simp [off])

theorem disableZone_on (on : (u.zone z).enabled = true) (awake : (u.zone z).state ≠ .dormant) :
    disableZone (b8 z) u =
      done (b8 z ++ b8 0)
        (u.applyDecision z
          { zone := (u.zone z).closed
            changes :=
              [{ fromState := (u.zone z).state, toState := .dormant, cause := .disable
                 readings := Readings.unseen (u.surfaceMin z) }] }) := by
  refine (sized_right rfl u _).trans ((withZone_b8 z u _).trans ?_)
  rw [if_pos on, Zone.disable_eq _ awake, zoneAnswer, State.applyDecision_zone_same]
  rfl

theorem occupied_eq (r : Zone) : r.occupied = r.slots.toList.countP fun k => k != .empty := by
  unfold Zone.occupied
  congr 1
  funext k
  cases k <;> rfl

theorem clearWindow_eq :
    clearWindow (b8 z) u =
      done (b8 z ++ b8 (u.zone z).top ++ b8 ((u.zone z).slots.toList.countP fun k => k != .empty))
        (if (u.zone z).enabled = true then State.evaluate (u.setZone z { u.zone z with slots := noSlots }) z else u) := by
  refine (sized_right rfl u _).trans ((withZone_b8 z u _).trans ?_)
  rw [← occupied_eq]
  rfl

end Zones

/-- Settles O34: a zone set up afresh, closed or emptied. -/
theorem zonesAreEnabledDisabledAndCleared : Obligations.ZonesAreEnabledDisabledAndCleared := by
  unfold Obligations.ZonesAreEnabledDisabledAndCleared
  intro s u h
  refine ⟨fun n out => ⟨commandRow_refused h 9 [n] ?_, commandRow_refused h 10 [n] ?_, commandRow_refused h 13 [n] ?_⟩,
    fun z => ⟨fun on => commandRow_done h 9 _ rfl (enableZone_on on), fun off dormant dry => ?_, fun off dormant wet => ?_,
      fun off => commandRow_done h 10 _ rfl (disableZone_off off),
      fun on awake => commandRow_done h 10 _ rfl (disableZone_on on awake), fun on => ?_, fun off => ?_⟩⟩
  · exact (sized_right rfl u _).trans (withZone_out out u _)
  · exact (sized_right rfl u _).trans (withZone_out out u _)
  · exact (sized_right rfl u _).trans (withZone_out out u _)
  · refine commandRow_done h 9 _ rfl ((enableZone_off off).trans ?_)
    simp [Zone.reawakening, dormant, dry, reawakened, ZoneState.code, Readings.unseen]
  · refine commandRow_done h 9 _ rfl ((enableZone_off off).trans ?_)
    simp [Zone.reawakening, dormant, wet, reawakened, ZoneState.code, Readings.unseen]
  · refine commandRow_done h 13 _ ?_ (clearWindow_eq.trans ?_)
    · exact (congrArg State.ownAddress (besideZones_evaluate (u.setZone z { u.zone z with slots := noSlots }) z) :)
    · rw [if_pos on]
  · refine commandRow_done h 13 _ rfl (clearWindow_eq.trans ?_)
    rw [if_neg (by simp [off])]

/-! ## SET WET INPUT (R137, R138) -/

theorem taken_spelled (x : WetState) : (x == .wet || x == .toDry) = x.taken := by cases x <;> rfl

theorem zone_foldl_writeWetFlag (l : List (Fin 24)) (s : State) (z : Fin 24) :
    (l.foldl State.writeWetFlag s).zone z = { s.zone z with wet := if z ∈ l then s.wetFlag z else (s.zone z).wet } := by
  induction l generalizing s with
  | nil => simp
  | cons y l ih =>
    rw [List.foldl_cons, ih, wetFlag_of_wetInputs (State.writeWetFlag_wetInputs s y)]
    by_cases own : z = y
    · subst own
      simp [State.writeWetFlag]
    · simp [own, State.writeWetFlag, State.setZone_zone_other]

/-- Writing the flags of zones moves the zones alone. -/
theorem foldl_writeWetFlag_eq (l : List (Fin 24)) (s : State) :
    l.foldl State.writeWetFlag s = { s with zones := (l.foldl State.writeWetFlag s).zones } := by
  induction l generalizing s with
  | nil => rfl
  | cons y l ih => exact ih (s.writeWetFlag y)

theorem zones_ofFn {s : State} {r : Fin 24 → Zone} (h : ∀ z, s.zone z = r z) : s.zones = Vector.ofFn r := by
  ext i small
  rw [Vector.getElem_ofFn]
  exact h ⟨i, small⟩

/-- With the flags of the zones not listed true already, the listed ones are written and evaluated as all zones would be. -/
theorem recomputeFlags_whole {s : State} {zs : List (Fin 24)} (sub : zs = allZones.filter (· ∈ zs))
    (others : ∀ z, z ∉ zs → s.wetFlag z = (s.zone z).wet) :
    s.recomputeFlags zs =
      ((List.finRange 24).filter fun z => s.wetFlag z != (s.zone z).wet).foldl State.evaluate
        { s with zones := Vector.ofFn fun z => { s.zone z with wet := s.wetFlag z } } := by
  have listed : (zs.filter fun z => s.wetFlag z != (s.zone z).wet) =
      (List.finRange 24).filter fun z => s.wetFlag z != (s.zone z).wet := by
    rw [sub, List.filter_filter]
    refine List.filter_congr fun z _ => ?_
    by_cases member : z ∈ zs
    · simp [member]
    · simp [member, others z member]
  unfold State.recomputeFlags
  dsimp only
  rw [listed, foldl_writeWetFlag_eq]
  have zones := zones_ofFn (zone_foldl_writeWetFlag ((List.finRange 24).filter fun z => s.wetFlag z != (s.zone z).wet) s)
  rw [zones]
  congr 3
  funext z
  by_cases same : s.wetFlag z = (s.zone z).wet <;> simp [same]

theorem affected_listed (old new : WetInput) : old.affected new = allZones.filter (· ∈ old.affected new) := by
  unfold WetInput.affected
  split
  · simp
  · refine List.filter_congr fun z _ => ?_
    rw [Bool.eq_iff_iff]
    simp [allZones]

/-- The configured record of a wet input: a changed wet level takes the state the pin now gives (R138). -/
theorem configure_spelled (now : Stamp) (zone : Option (Fin 24)) (level : Bool) (qualify : Nat) (selection : Selection)
    (old : WetInput) :
    old.configure now zone level qualify selection =
      if level = old.wetLevel then { old with zone := zone, qualify := qualify, selection := selection }
      else
        { old with
          zone := zone, wetLevel := level, qualify := qualify, selection := selection
          state := if old.pin = level then .wet else .dry, deadline := none
          capture :=
            if ((if old.pin = level then WetState.wet else .dry) == .wet) = (old.state == .wet || old.state == .toDry) then
              old.capture
            else now } := by
  have atOnce : ((if old.pin = level then WetState.wet else .dry) == .wet) =
      (if old.pin = level then WetState.wet else .dry).taken := by split <;> rfl
  rw [atOnce, taken_spelled]
  unfold WetInput.configure WetInput.atOnce
  dsimp only
  split <;> rfl

section SetWetInput

variable {f : List Byte} {s : State} {i : Fin 4}

theorem levelOf_two {n : Nat} (h : n ≤ 1) : levelOf n = some (decide (n = 1)) := yesNoOf_two h

theorem levelOf_out {n : Nat} (h : 1 < n) : levelOf n = none := by
  match n, h with
  | n + 2, _ => rfl

theorem selectionOf_code (x : Selection) : Selection.ofCode x.code = some x := by cases x <;> rfl

theorem selectionOf_out {n : Nat} (h : 3 < n) : Selection.ofCode n = none := by
  match n, h with
  | n + 4, _ => rfl

theorem zoneOrNoneOf_out {n : Nat} (h : ¬ (n < 24 ∨ n = 255)) : zoneOrNoneOf n = none := by
  rw [zoneOrNoneOf, if_neg (by omega), zoneOf_out (by omega)]
  rfl

theorem setWetInput_refused (size : f.length = 5)
    (out : ¬ (u8 f 0 < 4 ∧ (u8 f 1 < 24 ∨ u8 f 1 = 255) ∧ u8 f 2 ≤ 1 ∧ u8 f 3 ≤ 50 ∧ u8 f 4 ≤ 3)) :
    setWetInput f s = refuse .range s := by
  rw [setWetInput, sized_right size]
  refine withUnit_refused fun unit i => ?_
  by_cases zone : u8 f 1 < 24 ∨ u8 f 1 = 255
  · obtain level | noLevel := le_or_gt (u8 f 2) 1
    · obtain selection | noSelection := le_or_gt (u8 f 4) 3
      · split
        · exact if_neg fun range => out ⟨unit, zone, level, range, selection⟩
        · rfl
      · rw [selectionOf_out noSelection]
        split
        · next none => cases none
        · rfl
    · rw [levelOf_out noLevel]
      split
      · next none _ => cases none
      · rfl
  · rw [zoneOrNoneOf_out zone]

theorem setWetInput_done (size : f.length = 5) (unit : u8 f 0 = i) {zone : Option (Fin 24)} {selection : Selection}
    (mapped : zoneOrNoneOf (u8 f 1) = some zone) (written : zoneOrNone zone = b8 (u8 f 1)) (level : u8 f 2 ≤ 1)
    (range : u8 f 3 ≤ 50) (code : selection.code = u8 f 4) :
    setWetInput f s =
      let new := (s.wetInput i).configure s.counter zone (decide (u8 f 2 = 1)) (u8 f 3) selection
      done (f ++ b8 new.state.code ++ b24 new.capture ++ deadlineField new.deadline)
        ((s.setWetInput i new).recomputeFlags ((s.wetInput i).affected new)) := by
  have chosen : Selection.ofCode (u8 f 4) = some selection := by rw [← code, selectionOf_code]
  rw [setWetInput, sized_right size, unit, withUnit_fin, mapped, levelOf_two level, chosen]
  have echoed : b8 i ++ zoneOrNone zone ++ b8 (decide (u8 f 2 = 1)).toNat ++ b8 (u8 f 3) ++ b8 (u8 f 4) = f := by
    have low : b8 (decide (u8 f 2 = 1)).toNat = b8 (u8 f 2) := flag_two level
    rw [written, low, ← unit]
    match f, size with
    | [_, _, _, _, _], _ => simp
  have fields : wetHead ((s.wetInput i).configure s.counter zone (decide (u8 f 2 = 1)) (u8 f 3) selection) =
      zoneOrNone zone ++ b8 (decide (u8 f 2 = 1)).toNat ++ b8 (u8 f 3) ++ b8 (u8 f 4) ++
        b8 ((s.wetInput i).configure s.counter zone (decide (u8 f 2 = 1)) (u8 f 3) selection).state.code := by
    rw [← code]
    unfold WetInput.configure wetHead
    dsimp only
    split
    · next same => rw [same]
    · rfl
  simp only [if_pos range, fields, wetTail]
  rw [← List.append_assoc, ← List.append_assoc, ← List.append_assoc, ← List.append_assoc, ← List.append_assoc, echoed]

end SetWetInput

/-- Settles O39: the configured record, and the flags written and evaluated zone by zone. -/
theorem wetInputSettingsAreWritten : Obligations.WetInputSettingsAreWritten := by
  unfold Obligations.WetInputSettingsAreWritten
  intro s u h law f size
  refine ⟨fun out => commandRow_refused h 25 f (setWetInput_refused size out),
    fun i zone selection fits unit mapped code => ?_⟩
  intro old level isWet now new wrote wet changed flagged
  obtain ⟨_, _, two, range, _⟩ := fits
  have configured : old.configure u.counter zone level (u8 f 3) selection = new := by
    exact configure_spelled u.counter zone level (u8 f 3) selection old
  have said (z : Fin 24) : wet z = wrote.wetFlag z := flag_spelled wrote z
  have field : zoneOrNoneOf (u8 f 1) = some zone ∧ zoneOrNone zone = b8 (u8 f 1) := by
    cases zone with
    | none => 
      simp only at mapped
      rw [mapped]
      exact ⟨rfl, rfl⟩
    | some z =>
      simp only at mapped
      rw [mapped, zoneOrNoneOf, zoneOf_fin]
      exact ⟨if_neg (by omega), rfl⟩
  have judged := setWetInput_done (s := u) size unit field.1 field.2 two range code
  have written : (u.wetInput i).configure u.counter zone (decide (u8 f 2 = 1)) (u8 f 3) selection = new := configured
  simp only [written] at judged
  have own : ((u.setWetInput i new).recomputeFlags ((u.wetInput i).affected new)).ownAddress = u.ownAddress :=
    (congrArg State.ownAddress (besideZones_recomputeFlags _ _) :)
  refine (commandRow_done h 25 f own judged).trans ?_
  have flags : (u.setWetInput i new).recomputeFlags ((u.wetInput i).affected new) = changed.foldl State.evaluate flagged := by
    refine (recomputeFlags_whole ?_ fun z spared => ?_).trans ?_
    · exact affected_listed old new
    · exact (wetFlag_setWetInput (affected_covers spared)).trans (law.1 z).symm
    · simp only [changed, flagged, said]
      rfl
  rw [flags]

end Sys2Proof.Machine

/-! SUPPORT. LOAD PROBE and DROP PROBE: O32. -/

namespace Sys2Proof.Machine

open Sys2Proof Slice0

theorem evaluate_ownAddress (s : State) (z : Fin 24) : (s.evaluate z).ownAddress = s.ownAddress :=
  (congrArg State.ownAddress (besideZones_evaluate s z) :)

/-! ## The loaded part (R34) -/

theorem kindOf_exists {n : Nat} (h : n ≤ 2) : ∃ k : ProbeKind, ProbeKind.ofCode n = some k ∧ k.code = n := by
  match n, h with
  | 0, _ => exact ⟨_, rfl, rfl⟩
  | 1, _ => exact ⟨_, rfl, rfl⟩
  | 2, _ => exact ⟨_, rfl, rfl⟩

theorem kindOf_out {n : Nat} (h : 2 < n) : ProbeKind.ofCode n = none := by
  match n, h with
  | n + 3, _ => rfl

theorem actionOf_exists {n : Nat} (h : n ≤ 1) : ∃ a : Action, Action.ofCode n = some a ∧ a.code = n := by
  match n, h with
  | 0, _ => exact ⟨_, rfl, rfl⟩
  | 1, _ => exact ⟨_, rfl, rfl⟩

theorem actionOf_out {n : Nat} (h : 1 < n) : Action.ofCode n = none := by
  match n, h with
  | n + 2, _ => rfl

/-- The loaded part of a LOAD PROBE payload, its kind, zone and action read. -/
def loadPart (f : List Byte) (kind : ProbeKind) (zone : Fin 24) (action : Action) : ProbeLoad :=
  { address := f.getD 0 0, kind := kind, zone := zone, action := action
    aLow := s16 f 4, aHigh := s16 f 6, aTrim := s16 f 8
    bLow := if kind == .air then s16 f 10 else 0, bHigh := if kind == .air then s16 f 12 else 0
    bTrim := if kind == .air then s16 f 14 else 0
    interval := u16 f 16, misses := u8 f 18, credit := if kind == .water then u16 f 19 else 0 }

section LoadPart

variable {f : List Byte} {kind : ProbeKind} {zone : Fin 24} {action : Action}

/-- The ranges of R34 on the bytes are those of the loaded part. -/
theorem loadPart_inRange (kinds : kind.code = u8 f 1) (zones : (zone : Nat) = u8 f 2) (actions : action.code = u8 f 3) :
    (loadPart f kind zone action).inRange = true ↔ loadInRange f := by
  have two : u8 f 1 ≤ 2 := by rw [← kinds]; cases kind <;> decide
  have one : u8 f 3 ≤ 1 := by rw [← actions]; cases action <;> decide
  have zone' : u8 f 2 ≤ 23 := by omega
  have address : (f[0]?.getD 0#8).toNat = u8 f 0 := by simp [u8]
  unfold loadInRange
  rw [← kinds] at two ⊢
  cases kind <;> simp [ProbeLoad.inRange, loadPart, ProbeKind.code, address, one, zone', and_assoc]

theorem loadPart_spelled (kinds : kind.code = u8 f 1) (zones : (zone : Nat) = u8 f 2) (actions : action.code = u8 f 3) :
    loadSpelled f (loadPart f kind zone action) := by
  unfold loadSpelled
  rw [← kinds]
  cases kind <;> exact ⟨rfl, rfl, zones, actions, rfl, rfl, rfl, rfl, rfl, rfl, rfl, rfl, rfl⟩

theorem readLoad_eq (kinds : ProbeKind.ofCode (u8 f 1) = some kind) (zones : zoneOf (u8 f 2) = some zone)
    (actions : Action.ofCode (u8 f 3) = some action) :
    readLoad f = if (loadPart f kind zone action).inRange = true then some (loadPart f kind zone action) else none := by
  rw [readLoad, kinds, zones, actions]
  rfl

end LoadPart

theorem readLoad_fits {f : List Byte} (fits : loadInRange f) : ∃ p, readLoad f = some p ∧ loadSpelled f p := by
  have inside := fits
  obtain ⟨_, kind, zone, action, _⟩ := inside
  obtain ⟨k, kinds, kindCode⟩ := kindOf_exists kind
  obtain ⟨a, actions, actionCode⟩ := actionOf_exists action
  have small : u8 f 2 < 24 := by omega
  have zones : zoneOf (u8 f 2) = some ⟨u8 f 2, small⟩ := zoneOf_fin ⟨u8 f 2, small⟩
  refine ⟨_, (readLoad_eq kinds zones actions).trans (if_pos ?_), loadPart_spelled kindCode rfl actionCode⟩
  exact (loadPart_inRange kindCode rfl actionCode).mpr fits

theorem readLoad_out {f : List Byte} (out : ¬ loadInRange f) : readLoad f = none := by
  obtain kind | noKind := le_or_gt (u8 f 1) 2
  · obtain zone | noZone := lt_or_ge (u8 f 2) 24
    · obtain action | noAction := le_or_gt (u8 f 3) 1
      · obtain ⟨k, kinds, kindCode⟩ := kindOf_exists kind
        obtain ⟨a, actions, actionCode⟩ := actionOf_exists action
        have zones : zoneOf (u8 f 2) = some ⟨u8 f 2, zone⟩ := zoneOf_fin ⟨u8 f 2, zone⟩
        refine (readLoad_eq kinds zones actions).trans (if_neg fun range => out ?_)
        exact (loadPart_inRange kindCode rfl actionCode).mp range
      · rw [readLoad, actionOf_out noAction]
        split
        · next none => cases none
        · rfl
    · rw [readLoad, zoneOf_out noZone]
      split
      · next none _ => cases none
      · rfl
  · rw [readLoad, kindOf_out noKind]

/-! ## The table after the command (R33, R35, R36, R37) -/

theorem length_insertProbe_absent {e : ProbeEntry} {t : List ProbeEntry} (h : e.load.address ∉ addresses t) :
    (insertProbe e t).length = t.length + 1 := by
  induction t with
  | nil => rfl
  | cons x t ih =>
    simp only [addresses, List.map_cons, List.mem_cons, not_or] at h
    obtain ⟨other, absent⟩ := h
    unfold insertProbe
    rw [if_neg (Ne.symm other)]
    split
    · rfl
    · simp [ih absent]

theorem length_removeProbe {a : Byte} {t : List ProbeEntry} (order : Ascending t) (h : a ∈ addresses t) :
    (removeProbe a t).length = t.length - 1 := by
  induction t with
  | nil => cases h
  | cons x t ih =>
    obtain ⟨after, rest⟩ := List.pairwise_cons.mp order
    by_cases own : x.load.address = a
    · have kept : removeProbe a t = t := List.filter_eq_self.mpr fun y member => by
        have apart := after y member
        simp only [bne_iff_ne, ne_eq]
        rintro same
        rw [own, same] at apart
        omega
      have gone : removeProbe a (x :: t) = removeProbe a t := List.filter_cons_of_neg (by simp [own])
      rw [gone, kept]
      rfl
    · have listed : a ∈ addresses t := by
        simp only [addresses, List.map_cons, List.mem_cons] at h
        exact h.resolve_left (Ne.symm own)
      have stays : removeProbe a (x :: t) = x :: removeProbe a t := List.filter_cons_of_pos (by simp [own])
      have pos : 0 < t.length := by
        obtain ⟨y, member, _⟩ := List.mem_map.mp listed
        exact List.length_pos_of_mem member
      rw [stays, List.length_cons, ih rest listed, List.length_cons]
      omega

section LoadProbe

variable {f : List Byte} {u : State} {p : ProbeLoad}

theorem loadProbe_refused (size : f.length = 21) (out : readLoad f = none) : loadProbe f u = refuse .range u := by
  rw [loadProbe, sized_right size, out]

theorem loadProbe_full (size : f.length = 21) (read : readLoad f = some p) (absent : u.findProbe p.address = none)
    (full : u.probes.length = 96) : loadProbe f u = refuse .full u := by
  rw [loadProbe, sized_right size, read]
  simp only [absent, full]
  rfl

theorem loadProbe_new (size : f.length = 21) (read : readLoad f = some p) (order : Ascending u.probes)
    (absent : u.findProbe p.address = none) (room : u.probes.length < 96) :
    loadProbe f u =
      done (b8 (u.probes.length + 1) ++ b8 1)
        { u with
          probes :=
            (u.probes.filter fun x => decide (x.load.address.toNat < p.address.toNat))
              ++ [freshEntry p u.counter]
              ++ u.probes.filter fun x => decide (p.address.toNat < x.load.address.toNat) } := by
  have away : (p.fresh u.counter).load.address ∉ addresses u.probes := (findProbe_eq_none_iff u _).mp absent
  have length := length_insertProbe_absent away
  rw [insertProbe_absent order away] at length
  rw [loadProbe, sized_right size, read]
  simp only [absent, insertProbe_absent order away]
  rw [if_pos room]
  exact congrArg (fun n => done (b8 n ++ b8 1) _) length

theorem loadProbe_over (size : f.length = 21) (read : readLoad f = some p) (order : Ascending u.probes) {old : ProbeEntry}
    (present : u.findProbe p.address = some old) :
    loadProbe f u =
      done (b8 u.probes.length ++ b8 2)
        (if old.disturbed p = true then
          State.evaluate { u with probes := rewritten u.probes (freshEntry p u.counter) } old.load.zone
        else { u with probes := rewritten u.probes (freshEntry p u.counter) }) := by
  have listed : (p.fresh u.counter).load.address ∈ addresses u.probes := by
    rw [← findProbe_isSome_iff]
    exact Option.isSome_of_eq_some present
  rw [loadProbe, sized_right size, read]
  simp only [present, insertProbe_present order listed]
  exact congrArg (fun n => done (b8 n ++ b8 2) _) (length_replaceProbe _ _)

theorem disturbed_iff (old : ProbeEntry) (p : ProbeLoad) :
    old.disturbed p = true ↔ old.load.zone ≠ p.zone ∨ old.load.kind ≠ p.kind ∨ old.contribution ≠ none := by
  simp [ProbeEntry.disturbed, or_assoc, Option.isSome_iff_ne_none]

end LoadProbe

section DropProbe

variable {u : State} {a : Byte}

theorem dropProbe_refused (out : ¬ probeAddress a = true) : dropProbe [a] u = refuse .range u := by
  exact (sized_right rfl u _).trans (if_neg out)

theorem dropProbe_absent (address : probeAddress a = true) (absent : u.findProbe a = none) :
    dropProbe [a] u = refuse .absent u := by
  refine (sized_right rfl u _).trans ((if_pos address).trans ?_)
  change (match u.findProbe a with | none => _ | some e => _) = _
  rw [absent]

theorem dropProbe_present (address : probeAddress a = true) (order : Ascending u.probes) {e : ProbeEntry}
    (present : u.findProbe a = some e) :
    dropProbe [a] u =
      done (b8 (u.probes.length - 1))
        (State.evaluate
          { u with
            probes := u.probes.filter fun x => x.load.address != a
            noticePending :=
              { u.noticePending with probeLost := u.noticePending.probeLost &&& ~~~BitVec.twoPow 128 a.toNat }
            noticeArmed := { u.noticeArmed with probeLost := u.noticeArmed.probeLost &&& ~~~BitVec.twoPow 128 a.toNat } }
          e.load.zone) := by
  have own : e.load.address = a := by simpa using List.find?_some present
  have listed : a ∈ addresses u.probes := by
    rw [← findProbe_isSome_iff]
    exact Option.isSome_of_eq_some present
  refine (sized_right rfl u _).trans ((if_pos address).trans ?_)
  change (match u.findProbe a with | none => _ | some e => _) = _
  rw [present, ← length_removeProbe order listed, ← own]
  rfl

end DropProbe

/-- Settles O32: the table with the entry put in its place, replaced or removed. -/
theorem probeEntriesAreLoadedAndDropped : Obligations.ProbeEntriesAreLoadedAndDropped := by
  unfold Obligations.ProbeEntriesAreLoadedAndDropped
  intro s u h law
  obtain ⟨_, order, _⟩ := (probeTableLawful_iff u).mp law
  refine ⟨fun f size out => commandRow_refused h 3 f (loadProbe_refused size (readLoad_out out)), fun f size fits => ?_,
    fun a => ⟨fun out => commandRow_refused h 4 [a] (dropProbe_refused ?_), fun one last absent =>
      commandRow_refused h 4 [a] (dropProbe_absent ((probeAddress_iff a).mpr ⟨one, last⟩) absent),
      fun e one last present => ?_⟩⟩
  · obtain ⟨p, read, spelled⟩ := readLoad_fits fits
    refine ⟨p, spelled, fun absent full => commandRow_refused h 3 f (loadProbe_full size read absent full),
      fun absent room => commandRow_done h 3 f rfl (loadProbe_new size read order absent room), fun old present => ?_⟩
    have judged := loadProbe_over size read order present
    intro written disturbed
    refine ⟨fun moved => commandRow_done h 3 f ?_ (judged.trans ?_), fun calm => commandRow_done h 3 f rfl (judged.trans ?_)⟩
    · exact evaluate_ownAddress written _
    · rw [if_pos ((disturbed_iff old p).mpr moved)]
    · rw [if_neg (mt (disturbed_iff old p).mp calm)]
  · rw [probeAddress_iff]
    omega
  · refine commandRow_done h 4 [a] ?_ (dropProbe_present ((probeAddress_iff a).mpr ⟨one, last⟩) order present)
    exact evaluate_ownAddress _ _

end Sys2Proof.Machine

/-! SUPPORT. RESTART EVALUATION zone by zone and output by output, and the laws of the reset state: O43 and O59. -/

namespace Sys2Proof.Machine

open Sys2Proof Slice0

/-! ## One zone restarted (R172) -/

/-- The verdict entry of a zone that RESTART EVALUATION moves to another state. -/
def restartVerdict (now : Stamp) (r : Zone) (z : Fin 24) : Verdict :=
  { zone := z, fromState := r.state, toState := if r.wet = true then .condensing else .blind
    cause := if r.wet = true then .wet else .enable, readings := { m := none, d := none, s := none }, stamp := now }

/-- RESTART EVALUATION moves the zone to another state. -/
def restartMoves (r : Zone) : Bool := r.enabled && (r.wet || r.state != .blind)

/-- The verdict entry an event adds for a zone, if it moves. -/
def restartVerdicts (now : Stamp) (r : Zone) (z : Fin 24) : List Verdict :=
  if restartMoves r = true then [restartVerdict now r z] else []

/-- A subject joined to a set of zones when a condition holds. -/
def joinZone (p : Fin 24 → Bool) (b : BitVec 24) (z : Fin 24) : BitVec 24 := if p z then b ||| BitVec.twoPow 24 z else b

/-- Two state changes of a zone without an entry leave one entry, from the state before the first (R156). -/
theorem queueVerdict_twice {z : Fin 24} {q : List Verdict} (fresh : (q.any fun v => v.zone == z) = false) (now : Stamp)
    (c d : Change) :
    queueVerdict z now (queueVerdict z now q c) d =
      q ++ [{ zone := z, fromState := c.fromState, toState := d.toState, cause := d.cause, readings := d.readings
              stamp := now }] := by
  have others : ∀ v ∈ q, (v.zone == z) = false := by simpa using fresh
  simp only [queueVerdict, fresh, List.any_append, List.any_cons, List.any_nil, beq_self_eq_true, Bool.or_true, Bool.or_false,
    Bool.false_eq_true, if_false, if_true, List.map_append, List.map_cons, List.map_nil]
  congr 1
  refine (List.map_congr_left fun v member => ?_).trans (List.map_id q)
  simp [others v member]

section OneZone

variable {s : State} {z : Fin 24} (unseen : s.surfaceMin z = none) (fresh : (s.verdicts.any fun v => v.zone == z) = false)
include unseen fresh

theorem restartZone_parts :
    (∀ y, (s.restartZone z).zone y =
      if y = z ∧ (s.zone z).enabled = true then reawakened s.counter (s.zone z) else s.zone y) ∧
    (s.restartZone z).verdicts = s.verdicts ++ restartVerdicts s.counter (s.zone z) z ∧
    (s.restartZone z).noticePending =
      { s.noticePending with
        condensing := joinZone (fun y => (s.zone y).enabled && (s.zone y).wet) s.noticePending.condensing z
        blind := joinZone (fun y => (s.zone y).enabled && (s.zone y).state != .blind) s.noticePending.blind z } := by
  unfold State.restartZone restartVerdicts restartMoves joinZone
  by_cases on : (s.zone z).enabled = true
  · rw [if_pos on, Zone.restart_eq _ _ on]
    refine ⟨fun y => ?_, ?_, ?_⟩
    · by_cases own : y = z
      · subst own
        rw [State.applyDecision_zone_same, if_pos ⟨rfl, on⟩]
        rfl
      · rw [State.applyDecision_zone_other _ _ own, if_neg fun h => own h.1]
    · simp only [State.applyDecision, Zone.reawakening, unseen]
      by_cases blind : (s.zone z).state = .blind <;> by_cases wet : (s.zone z).wet = true <;>
        simp [on, blind, wet, queueVerdict_twice fresh, restartVerdict, Readings.unseen]
      all_goals simp [queueVerdict, fresh]
    · simp only [State.applyDecision, Zone.reawakening, unseen]
      by_cases blind : (s.zone z).state = .blind <;> by_cases wet : (s.zone z).wet = true <;>
        simp [on, blind, wet, postEntered, NoticeSets.post]
  · simp [on]

end OneZone

/-! ## All zones restarted -/

theorem surfaceMin_of_probes {s t : State} (h : t.probes = s.probes) (z : Fin 24) : t.surfaceMin z = s.surfaceMin z := by
  simp only [State.surfaceMin, h]

theorem foldl_restartZone (l : List (Fin 24)) (s : State) (unseen : ∀ z, s.surfaceMin z = none) (distinct : l.Nodup)
    (fresh : ∀ z ∈ l, (s.verdicts.any fun v => v.zone == z) = false) :
    (∀ y, (l.foldl State.restartZone s).zone y =
      if y ∈ l ∧ (s.zone y).enabled = true then reawakened s.counter (s.zone y) else s.zone y) ∧
    (l.foldl State.restartZone s).verdicts =
      s.verdicts ++ (l.filter fun z => restartMoves (s.zone z)).map (fun z => restartVerdict s.counter (s.zone z) z) ∧
    (l.foldl State.restartZone s).noticePending =
      { s.noticePending with
        condensing := l.foldl (joinZone fun y => (s.zone y).enabled && (s.zone y).wet) s.noticePending.condensing
        blind := l.foldl (joinZone fun y => (s.zone y).enabled && (s.zone y).state != .blind) s.noticePending.blind } := by
  induction l generalizing s with
  | nil => simp
  | cons z l ih =>
    obtain ⟨apart, rest⟩ := List.nodup_cons.mp distinct
    obtain ⟨zones, verdicts, notices⟩ := restartZone_parts (unseen z) (fresh z List.mem_cons_self)
    have counter : (s.restartZone z).counter = s.counter := (congrArg State.counter (besideZones_restartZone s z) :)
    have probes : (s.restartZone z).probes = s.probes := (congrArg State.probes (besideZones_restartZone s z) :)
    have same : ∀ y ∈ l, (s.restartZone z).zone y = s.zone y := fun y member => by
      rw [zones, if_neg]
      rintro ⟨rfl, _⟩
      exact apart member
    have next : ∀ y ∈ l, ((s.restartZone z).verdicts.any fun v => v.zone == y) = false := fun y member => by
      have other : ¬ z = y := fun e => apart (e ▸ member)
      rw [verdicts, List.any_append, fresh y (List.mem_cons_of_mem _ member), restartVerdicts]
      split <;> simp [restartVerdict, other]
    obtain ⟨zonesL, verdictsL, noticesL⟩ :=
      ih (s.restartZone z) (fun y => (surfaceMin_of_probes probes y).trans (unseen y)) rest next
    have sets (p : Zone → Bool) (b : BitVec 24) :
        l.foldl (joinZone fun y => p ((s.restartZone z).zone y)) b = l.foldl (joinZone fun y => p (s.zone y)) b :=
      List.foldl_ext _ _ _ fun b y member => by simp only [joinZone, same y member]
    refine ⟨fun y => ?_, ?_, ?_⟩
    · rw [List.foldl_cons, zonesL, counter]
      by_cases own : y = z
      · subst own
        rw [if_neg fun h => apart h.1, zones]
        simp
      · have stays : (s.restartZone z).zone y = s.zone y := by rw [zones, if_neg fun h => own h.1]
        simp [stays, own]
    · rw [List.foldl_cons, verdictsL, verdicts, counter, restartVerdicts, List.append_assoc]
      have filtered : (l.filter fun y => restartMoves ((s.restartZone z).zone y)) = l.filter fun y => restartMoves (s.zone y) :=
        List.filter_congr fun y member => by rw [same y member]
      have entries : (l.filter fun y => restartMoves (s.zone y)).map
            (fun y => restartVerdict s.counter ((s.restartZone z).zone y) y) =
          (l.filter fun y => restartMoves (s.zone y)).map fun y => restartVerdict s.counter (s.zone y) y :=
        List.map_congr_left fun y member => by rw [same y (List.mem_of_mem_filter member)]
      rw [filtered, entries, List.filter_cons]
      split <;> simp
    · rw [List.foldl_cons, noticesL, notices]
      simp only [List.foldl_cons]
      rw [sets fun r => r.enabled && r.wet, sets fun r => r.enabled && r.state != .blind]


/-! ## The outputs begin a period -/

theorem restartOutput_eq (s : State) (i : Fin 4) :
    s.restartOutput i =
      s.setOutput i (if (s.output i).enabled = true then begun s s.counter (s.output i) else s.output i) := by
  unfold State.restartOutput
  split
  · exact periodBoundary_eq s i s.counter
  · simp [State.setOutput, State.output]

theorem output_foldl_restartOutput (l : List (Fin 4)) (s : State) (distinct : l.Nodup) (i : Fin 4) :
    (l.foldl State.restartOutput s).output i =
      if i ∈ l ∧ (s.output i).enabled = true then begun s s.counter (s.output i) else s.output i := by
  induction l generalizing s with
  | nil => simp
  | cons j l ih =>
    obtain ⟨apart, rest⟩ := List.nodup_cons.mp distinct
    rw [List.foldl_cons, ih _ rest, restartOutput_eq]
    have counter (r : Output) : (s.setOutput j r).counter = s.counter := rfl
    have begins (r o : Output) : begun (s.setOutput j r) s.counter o = begun s s.counter o := rfl
    rw [counter, begins]
    by_cases own : i = j
    · subst own
      rw [if_neg fun h => apart h.1, State.setOutput_output_same]
      simp
    · rw [State.setOutput_output_other _ _ own]
      simp [own]

/-! ## The whole restart (R172) -/

/-- With every probe UNSEEN no zone has a surface temperature. -/
theorem surfaceMin_freshProbes (s : State) (z : Fin 24) : s.freshProbes.surfaceMin z = none := by
  rw [State.surfaceMin_eq_none]
  rintro e x ⟨member, _, gives⟩
  obtain ⟨p, _, rfl⟩ := List.mem_map.mp member
  rw [contribution_of_not_live (by simp [ProbeLoad.fresh])] at gives
  cases gives

/-- What RESTART EVALUATION leaves of the zones, the verdicts and the notices before its output step. -/
theorem zonesRestarted_parts (u : State) :
    (∀ z, u.zonesRestarted.zone z = if (u.zone z).enabled = true then reawakened u.counter (u.zone z) else u.zone z) ∧
    u.zonesRestarted.verdicts =
      ((List.finRange 24).filter fun z => restartMoves (u.zone z)).map (fun z => restartVerdict u.counter (u.zone z) z) ∧
    u.zonesRestarted.noticePending =
      { NoticeSets.none with
        condensing := BitVec.ofFnLE fun z : Fin 24 => (u.zone z).enabled && (u.zone z).wet
        blind := BitVec.ofFnLE fun z : Fin 24 => (u.zone z).enabled && (u.zone z).state != .blind } := by
  obtain ⟨zones, verdicts, notices⟩ :=
    foldl_restartZone allZones u.forgetReports.freshProbes (surfaceMin_freshProbes _) (List.nodup_finRange 24)
      fun z _ => rfl
  have zone (z : Fin 24) :
      u.zonesRestarted.zone z = (allZones.foldl State.restartZone u.forgetReports.freshProbes).zone z := by
    unfold State.zonesRestarted
    simp only [State.zone, State.refreshAlert_zones]
  have queue : u.zonesRestarted.verdicts = (allZones.foldl State.restartZone u.forgetReports.freshProbes).verdicts := by
    unfold State.zonesRestarted
    exact State.refreshAlert_verdicts _
  have sets : u.zonesRestarted.noticePending =
      (allZones.foldl State.restartZone u.forgetReports.freshProbes).noticePending := by
    unfold State.zonesRestarted
    exact State.refreshAlert_noticePending _
  have before (z : Fin 24) : u.forgetReports.freshProbes.zone z = u.zone z := rfl
  refine ⟨fun z => ?_, queue.trans verdicts, (sets.trans notices).trans ?_⟩
  · rw [zone, zones, before]
    simp only [allZones, List.mem_finRange, true_and]
    rfl
  · rw [← foldl_twoPow_eq_ofFnLE, ← foldl_twoPow_eq_ofFnLE]
    rfl

theorem restart_wrong {scope : Byte} (one : scope.toNat ≠ 1) (two : scope.toNat ≠ 2) (s : State) :
    restart [scope] s = refuse .range s := by
  refine (sized_right rfl s _).trans ?_
  split
  · next h => exact absurd h one
  · next h => exact absurd h two
  · rfl

/-- The part with the zones, verdicts and notices of `t` and the rest as `s` has it. -/
theorem eq_of_besideZones {s t : State} (h : t.besideZones = s.besideZones) :
    t =
      { s with
        zones := t.zones, verdicts := t.verdicts, alert := t.alert
        noticePending := t.noticePending } := by
  cases s
  cases t
  simp only [State.besideZones, State.mk.injEq] at h ⊢
  simp_all

/-- The part after RESTART EVALUATION, but for its outputs. -/
theorem zonesRestarted_eq (u : State) :
    u.zonesRestarted =
      { u with
        verdicts := u.zonesRestarted.verdicts, noticePending := u.zonesRestarted.noticePending
        noticeArmed := NoticeSets.none, sticky := 0, deferred := 0
        probes := u.probes.map fun e => freshEntry e.load u.counter, zones := u.zonesRestarted.zones
        alert := u.zonesRestarted.alertNow } := by
  have same := besideZones_zonesRestarted u
  have alert : u.zonesRestarted.alert = u.zonesRestarted.alertNow := by
    unfold State.zonesRestarted
    exact (State.refreshAlert_alert _).trans
      (alertNow_of_zones (State.refreshAlert_zones _) (State.refreshAlert_alertSet _)).symm
  rw [← alert]
  exact eq_of_besideZones same

/-- Settles O43: the zones and outputs one by one, and the rest of the part. -/
theorem restartEvaluationForgetsConclusions : Obligations.RestartEvaluationForgetsConclusions := by
  unfold Obligations.RestartEvaluationForgetsConclusions
  intro s u h
  refine ⟨fun scope one two => commandRow_refused h 2 [scope] (restart_wrong one two u), u.restartEvaluation, ?_, ?_⟩
  · have registers := registers_restartEvaluation u
    simp only [State.registers, Prod.mk.injEq] at registers
    obtain ⟨_, _, own, _⟩ := registers
    have judged : restart [1] u = done ([1] ++ b24 u.counter) u.restartEvaluation := sized_right rfl u _
    exact commandRow_done h 2 [1] own judged
  · obtain ⟨o, e⟩ := restartEvaluation_outputs u
    have outputs (i : Fin 4) : u.restartEvaluation.output i =
        if (u.output i).enabled = true then begun u.zonesRestarted u.counter (u.output i) else u.output i := by
      have same : u.zonesRestarted.outputs = u.outputs := by rw [zonesRestarted_eq]
      have stands : u.zonesRestarted.output i = u.output i := by simp only [State.output, same]
      have counter : u.zonesRestarted.counter = u.counter := by rw [zonesRestarted_eq]
      rw [restartEvaluation_eq, output_foldl_restartOutput allUnits _ (List.nodup_finRange 4), stands, counter]
      simp [allUnits]
    obtain ⟨zones, verdicts, notices⟩ := zonesRestarted_parts u
    rw [e] at outputs ⊢
    exact ⟨congrArg (fun t : State => { t with outputs := o }) (zonesRestarted_eq u), zones, verdicts, notices, outputs⟩

/-! ## The reset state -/

theorem zone_reset (z : Fin 24) : State.reset.zone z = Zone.powerOn := by simp [State.zone, State.reset]

theorem deadlinesOnTime_reset : State.reset.DeadlinesOnTime := by
  have input (i : Fin 4) : State.reset.wetInput i = WetInput.powerOn true 0 := by simp [State.wetInput, State.reset]
  have output (i : Fin 4) : State.reset.output i = Output.powerOn 0 := by simp [State.output, State.reset]
  have disarmed : onTime 0 none := nofun
  refine ⟨fun i => ?_, fun e member => absurd member List.not_mem_nil, fun z => ⟨fun k => ?_, ?_, ?_, ?_, ?_⟩, fun i => ?_⟩
  · rw [input]
    exact disarmed
  · have slot : State.reset.slotDeadline z k = none := by
      simp [State.slotDeadline, zone_reset, Zone.powerOn, Zone.slot, Slot.expiry]
    rw [slot]
    exact disarmed
  · have persistence : State.reset.persistenceDeadline z = none := by
      simp [State.persistenceDeadline, zone_reset, Zone.powerOn]
    rw [persistence]
    exact disarmed
  · rw [zone_reset]
    exact disarmed
  · rw [zone_reset]
    exact disarmed
  · rw [zone_reset]
    rfl
  · rw [output]
    exact disarmed

/-- Settles O59: each law at the power-on values. -/
theorem resetMeetsEveryLaw : Obligations.ResetMeetsEveryLaw := by
  unfold Obligations.ResetMeetsEveryLaw
  obtain ⟨line, range⟩ := alert_powerOn (s := State.reset) rfl rfl rfl
  have dormant (z : Fin 24) : (State.reset.zone z).state = .dormant ↔ (State.reset.zone z).enabled = false := by
    simp [zone_reset, Zone.powerOn]
  refine ⟨?_, verdicts_none rfl, ?_, rfl, arithmetic_unmarked builtIn_lawful trivial rfl, zones_powerOn rfl,
    wetFlagsTrue_powerOn (inputs := State.reset.wetInputs) (now := 0) ?_ rfl,
    timely_nil.mp (timely_powerOn rfl), deadlinesOnTime_reset, ⟨line, range, dormant⟩, ?_, ?_, ?_, nofun⟩
  · exact ⟨by decide, by decide, by decide, by decide, nofun⟩
  · exact (probeTableLawful_iff _).mpr tableLawful_nil
  · simp [State.reset, WetInput.powerOn]
  · exact ⟨fun _ => ⟨rfl, rfl, rfl⟩, fun _ => rfl, nofun⟩
  · exact powerOn_transmitter_lawful false
  · exact powerOn_transmitter_lawful false

end Sys2Proof.Machine

/-! SUPPORT. What the operations of the part can do to a deadline: leave it, disarm it, or arm it ahead of the counter or due at
once. -/

namespace Sys2Proof.Machine

open Sys2Proof Slice0

/-! ## Deadlines at a count (R24 to R28) -/

/-- A deadline a count can go past: disarmed, due at once unless periodic, or 1 to 65,535 ticks ahead. -/
def Fresh (now : Stamp) (periodic : Bool) (d : Deadline) : Prop :=
  ∀ a, d = some a → (a.due = true ∧ periodic = false) ∨
    (a.due = false ∧ 1 ≤ (a.time - now).toNat ∧ (a.time - now).toNat ≤ 65535)

/-- A deadline that no count has gone past: the counter may have reached it. -/
def Timely (now : Stamp) (periodic : Bool) (d : Deadline) : Prop :=
  ∀ a, d = some a → (a.due = true ∧ periodic = false) ∨ (a.due = false ∧ (a.time - now).toNat ≤ 65535)

/-- An operation at the count `now` left the deadline, or made it fresh. -/
def Rearm (now : Stamp) (periodic : Bool) (d e : Deadline) : Prop := e = d ∨ Fresh now periodic e

section Deadlines

variable {now : Stamp} {periodic : Bool} {d e : Deadline}

theorem fresh_none : Fresh now periodic none := nofun

theorem Fresh.timely (h : Fresh now periodic d) : Timely now periodic d := fun a armed =>
  (h a armed).imp_right fun ⟨due, _, within⟩ => ⟨due, within⟩

theorem Rearm.refl : Rearm now periodic d d := .inl rfl

theorem Rearm.of_none : Rearm now periodic d none := .inr fresh_none

theorem Rearm.trans {f : Deadline} (h : Rearm now periodic d e) (k : Rearm now periodic e f) : Rearm now periodic d f := by
  obtain rfl | fresh := k
  · exact h
  · exact .inr fresh

theorem Rearm.fresh (h : Rearm now periodic d e) (k : Fresh now periodic d) : Fresh now periodic e := by
  obtain rfl | fresh := h
  · exact k
  · exact fresh

theorem Rearm.timely (h : Rearm now periodic d e) (k : Timely now periodic d) : Timely now periodic e := by
  obtain rfl | fresh := h
  · exact k
  · exact fresh.timely

theorem toNat_sub_stamp (a now : Stamp) : (a - now).toNat = (a.toNat + 16777216 - now.toNat) % 16777216 := elapsed_eq a now

/-- A deadline set under R26 is due at once or ahead. -/
theorem fresh_setDeadline (now base : Stamp) (n : Nat) : Fresh now false (some (setDeadline now base n)) := by
  rintro a armed
  obtain rfl := Option.some.inj armed
  cases due : (setDeadline now base n).due with
  | true => exact .inl ⟨rfl, rfl⟩
  | false =>
    obtain ⟨_, _, _, _, ahead⟩ := deadlineTestsAgree now base n
    rw [toNat_sub_stamp]
    exact .inr ⟨rfl, ahead due⟩

/-- A periodic deadline armed at the counter is ahead. -/
theorem fresh_armed {a : Arming} {n : Nat} (pos : 0 < n) (due : a.due = false) (time : a.time = deadlineAt now n) :
    Fresh now true (some a) := by
  rintro b armed
  obtain rfl := Option.some.inj armed
  have short := limited_le n
  have least : 0 < limited n := by simp only [limited, Config.longestDuration]; omega
  have value := deadlineAt_toNat now n
  have now_lt := now.isLt
  rw [toNat_sub_stamp, time, value]
  exact .inr ⟨due, by omega, by omega⟩

theorem fresh_setDeadline_periodic {n : Nat} (pos : 0 < n) : Fresh now true (some (setDeadline now now n)) := by
  have least : 0 < limited n := by simp only [limited, Config.longestDuration]; omega
  exact fresh_armed pos (by simp [setDeadline, elapsed_self]; omega) rfl

/-- A timely deadline that is not due and not reached is ahead. -/
theorem Timely.fresh (h : Timely now periodic d) (ahead : deadlineExpired d now = false) : Fresh now periodic d := by
  rintro a rfl
  rw [deadlineExpired_some, Arming.expired, Bool.or_eq_false_iff] at ahead
  obtain ⟨due, unreached⟩ := ahead
  obtain ⟨isDue, _⟩ | ⟨_, within⟩ := h a rfl
  · simp [isDue] at due
  · have far : ¬ (now.toNat + 16777216 - a.time.toNat) % 16777216 < 8388608 := by
      rw [← reached_iff]
      simp [unreached]
    have := now.isLt
    have := a.time.isLt
    rw [toNat_sub_stamp] at within ⊢
    exact .inr ⟨due, by omega, by omega⟩

/-- A fresh deadline that is not due at once is ahead of the counter. -/
theorem Fresh.ahead (h : Fresh now periodic d) (notDue : deadlineDue d = false) : deadlineExpired d now = false := by
  cases d with
  | none => rfl
  | some a =>
    have due : a.due = false := notDue
    obtain ⟨isDue, _⟩ | ⟨_, least, most⟩ := h a rfl
    · simp [isDue] at due
    · have far : ¬ reached now a.time = true := by
        rw [reached_iff]
        rw [toNat_sub_stamp] at least most
        have := now.isLt
        have := a.time.isLt
        omega
      simp [deadlineExpired, Arming.expired, due, far]

/-- After a count a fresh deadline is still timely. -/
theorem Fresh.counted (h : Fresh now periodic d) : Timely (now + 1) periodic d := by
  intro a armed
  obtain due | ⟨notDue, least, most⟩ := h a armed
  · exact .inl due
  · refine .inr ⟨notDue, ?_⟩
    have step : (now + 1).toNat = (now.toNat + 1) % 16777216 := by simp
    rw [toNat_sub_stamp] at least most ⊢
    have := now.isLt
    have := a.time.isLt
    omega

/-- A reached deadline that is timely is reached exactly now. -/
theorem Timely.time_eq {a : Arming} (h : Timely now true (some a)) (expired : a.expired now = true) :
    a.time = now ∧ a.due = false := by
  obtain ⟨_, absurd⟩ | ⟨due, within⟩ := h a rfl
  · cases absurd
  · rw [Arming.expired, due, Bool.false_or, reached_iff] at expired
    rw [toNat_sub_stamp] at within
    have := now.isLt
    have := a.time.isLt
    exact ⟨BitVec.eq_of_toNat_eq (by omega), due⟩

end Deadlines

/-! ## The deadlines of one zone record -/

/-- Every deadline of the record was left or made fresh. -/
structure Zone.Rearmed (now : Stamp) (z y : Zone) : Prop where
  slot : ∀ k, Rearm now false (z.slot k).expiry (y.slot k).expiry
  persistence : Rearm now false (z.persistence.map Persistence.arming) (y.persistence.map Persistence.arming)
  blind : Rearm now false z.blind y.blind
  trend : Rearm now true z.trendDeadline y.trendDeadline

section Records

variable {now : Stamp} {z y x : Zone}

theorem Zone.Rearmed.refl : Zone.Rearmed now z z := ⟨fun _ => .refl, .refl, .refl, .refl⟩

theorem Zone.Rearmed.trans (h : Zone.Rearmed now z y) (k : Zone.Rearmed now y x) : Zone.Rearmed now z x :=
  ⟨fun i => (h.slot i).trans (k.slot i), h.persistence.trans k.persistence, h.blind.trans k.blind, h.trend.trans k.trend⟩

/-- A record whose deadlines stand as they did. -/
theorem Zone.Rearmed.of_same (slots : y.slots = z.slots) (persistence : y.persistence = z.persistence)
    (blind : y.blind = z.blind) (trend : y.trendDeadline = z.trendDeadline) : Zone.Rearmed now z y :=
  ⟨fun k => .inl (by simp only [Zone.slot, slots]), .inl (by rw [persistence]), .inl blind, .inl trend⟩

/-- A window with every slot empty. -/
theorem rearm_noSlots (empty : y.slots = noSlots) (k : Fin 8) : Rearm now false (z.slot k).expiry (y.slot k).expiry := by
  have none : (y.slot k).expiry = none := by simp [Zone.slot, empty, noSlots, Slot.expiry]
  rw [none]
  exact .of_none

theorem Zone.Rearmed.disarm (h : Zone.Rearmed now z y) : Zone.Rearmed now z { y with persistence := none } :=
  ⟨h.slot, .of_none, h.blind, h.trend⟩

theorem Zone.Rearmed.calm (h : Zone.Rearmed now z y) : Zone.Rearmed now z { y with blind := none } :=
  ⟨h.slot, h.persistence, .of_none, h.trend⟩

theorem Zone.rearmed_takeUp (now : Stamp) (z : Zone) : Zone.Rearmed now z (z.takeUp now) := by
  rw [Zone.takeUp_eq]
  refine ⟨fun _ => .refl, ?_, .refl, .refl⟩
  unfold Zone.keptPersistence
  split
  · exact .refl
  · cases z.persistence with
    | none => exact .refl
    | some q => exact .inr (fresh_setDeadline _ _ _)

section Decisions

variable {d : Decision} (h : Zone.Rearmed now z d.zone)
include h

theorem rearmed_move (next : ZoneState) (c : Cause) (r : Readings) : Zone.Rearmed now z (d.move next c r).zone := by
  obtain ⟨_, e⟩ | ⟨_, e⟩ := d.move_cases next c r
  · rw [e]
    exact h
  · rw [e]
    exact h.trans (.of_same rfl rfl rfl rfl)

theorem rearmed_persist (c : Raised) : Zone.Rearmed now z (d.persist now c).zone := by
  refine h.trans ⟨fun _ => .refl, ?_, .refl, .refl⟩
  unfold Decision.persist
  dsimp only
  cases d.zone.persistence with
  | none => exact .inr (fresh_setDeadline _ _ _)
  | some q => exact .refl

theorem rearmed_raise (c : ZoneState) (r : Readings) : Zone.Rearmed now z (d.raise now c r).zone := by
  unfold Decision.raise
  split
  · exact rearmed_move h _ _ _
  · exact rearmed_persist (rearmed_move h _ _ _) _
  · exact rearmed_persist (rearmed_move h _ _ _) _
  · exact rearmed_persist h _
  · exact rearmed_persist h _
  · exact rearmed_move h _ _ _
  · exact h

theorem rearmed_stepDown (c : ZoneState) (m p : Int) (r : Readings) : Zone.Rearmed now z (d.stepDown c m p r).zone := by
  have moved := rearmed_move h
  unfold Decision.stepDown
  dsimp only
  split
  · split
    · split
      · exact moved _ _ _
      · exact h
    · split
      · exact moved _ _ _
      · exact h
    · split
      · exact moved _ _ _
      · exact h
    · exact h
  · exact h

theorem rearmed_lower (c : ZoneState) (m p : Int) (r : Readings) : Zone.Rearmed now z (d.lower c m p r).zone := by
  have disarmed : Zone.Rearmed now z d.disarmPersistence.zone := h.disarm
  unfold Decision.lower
  split
  · exact rearmed_stepDown (rearmed_stepDown (rearmed_stepDown disarmed c m p r) c m p r) c m p r
  · exact h

theorem rearmed_ordered (m p : Int) (r : Readings) : Zone.Rearmed now z (d.ordered now m p r).zone := by
  have awake : Zone.Rearmed now z d.disarmBlind.zone := h.calm
  unfold Decision.ordered
  dsimp only
  refine rearmed_lower (rearmed_raise ?_ _ r) _ m p r
  split
  · exact rearmed_move awake _ _ _
  · exact awake

theorem rearmed_unordered : Zone.Rearmed now z (d.unordered now).zone := by
  have disarmed : Zone.Rearmed now z d.disarmPersistence.zone := h.disarm
  refine disarmed.trans ⟨fun _ => .refl, .refl, ?_, .refl⟩
  unfold Decision.unordered
  dsimp only
  split
  · split
    · exact .inr (fresh_setDeadline _ _ _)
    · next same => exact .inl same.symm
  · exact .refl

theorem rearmed_riskSteps (r : Readings) : Zone.Rearmed now z (d.riskSteps now r).zone := by
  unfold Decision.riskSteps
  split
  · have disarmed : Zone.Rearmed now z d.disarmPersistence.disarmBlind.zone := h.disarm.calm
    exact rearmed_move disarmed _ _ _
  · split
    · exact rearmed_unordered h
    · exact rearmed_ordered h _ _ r

theorem rearmed_evaluate (x : Option Int) : Zone.Rearmed now z (d.evaluate now x).zone := by
  unfold Decision.evaluate
  split
  · exact rearmed_riskSteps (d := { d with zone := d.zone.takeUp now }) (h.trans (Zone.rearmed_takeUp now d.zone)) _
  · exact h

end Decisions

theorem Zone.rearmed_reawakened (now : Stamp) (z : Zone) : Zone.Rearmed now z (reawakened now z) := by
  refine ⟨rearm_noSlots rfl, .of_none, .of_none, ?_⟩
  unfold reawakened trendFrom
  dsimp only
  split
  · next pos => exact .inr (fresh_setDeadline_periodic pos)
  · exact .of_none

theorem Zone.rearmed_disable (x : Option Int) (z : Zone) : Zone.Rearmed now z (z.disable x).zone := by
  unfold Zone.disable
  exact rearmed_move (z := z) ⟨rearm_noSlots rfl, .of_none, .of_none, .of_none⟩ _ _ _

theorem Zone.rearmed_expireSlot (k : Fin 8) (z : Zone) : Zone.Rearmed now z (z.expireSlot k) := by
  refine ⟨fun j => ?_, .refl, .refl, .refl⟩
  by_cases own : k = j
  · subst own
    have none : ((z.expireSlot k).slot k).expiry = none := by simp [Zone.slot, Zone.expireSlot, Slot.expiry]
    rw [none]
    exact .of_none
  · refine .inl ?_
    simp [Zone.slot, Zone.expireSlot, Fin.val_ne_iff.mpr own]

theorem Zone.rearmed_push (stamp : Stamp) (result : Option Int) (z : Zone) : Zone.Rearmed now z (z.push now stamp result) := by
  refine ⟨fun j => ?_, .refl, .refl, .refl⟩
  by_cases own : z.top + 7 = j
  · subst own
    refine .inr ?_
    cases result <;> simp [Zone.slot, Zone.push, Slot.expiry, fresh_setDeadline]
  · have other : ¬ ((z.top + 7 : Fin 8) : Nat) = j := fun e => own (Fin.ext e)
    refine .inl ?_
    cases result <;> simp [Zone.slot, Zone.push, other]

theorem Slot.rearm_recompute (now : Stamp) (age : Nat) (k : Slot) : Rearm now false k.expiry (k.recompute now age).expiry := by
  cases k with
  | empty => exact .refl
  | valid t d e => exact .inr (fresh_setDeadline _ _ _)
  | void t e => exact .inr (fresh_setDeadline _ _ _)

theorem Zone.rearmed_configure (now : Stamp) (a i l g : Nat) (z : Zone) : Zone.Rearmed now z (z.configure now a i l g) := by
  have slots (k : Fin 8) : Rearm now false (z.slot k).expiry ((z.configure now a i l g).slot k).expiry := by
    have kept : (z.configure now a i l g).slots = if a = z.age then z.slots else z.slots.map (Slot.recompute now a) := by
      unfold Zone.configure
      dsimp only
      split_ifs <;> rfl
    simp only [Zone.slot, kept]
    split
    · exact .refl
    · simpa using Slot.rearm_recompute now a z.slots[k]
  have persistence : (z.configure now a i l g).persistence = z.persistence := by
    unfold Zone.configure
    dsimp only
    split_ifs <;> rfl
  have blind : (z.configure now a i l g).blind = z.blind := by
    unfold Zone.configure
    dsimp only
    split_ifs <;> rfl
  have trend : (z.configure now a i l g).trendDeadline =
      if i ≠ z.interval ∧ z.enabled = true then (if 0 < i then some (setDeadline now now i) else none)
      else z.trendDeadline := by
    unfold Zone.configure
    dsimp only
    by_cases restarted : i ≠ z.interval ∧ z.enabled = true
    · rw [if_pos restarted, if_pos restarted]
      rfl
    · rw [if_neg restarted, if_neg restarted]
      split <;> rfl
  refine ⟨slots, .inl (by rw [persistence]), .inl blind, ?_⟩
  rw [trend]
  split
  · split
    · next pos => exact .inr (fresh_setDeadline_periodic pos)
    · exact .of_none
  · exact .refl

end Records

end Sys2Proof.Machine

/-! SUPPORT. Every operation on the part but a trend expiry leaves each deadline or makes it fresh. -/

namespace Sys2Proof.Machine

open Sys2Proof Slice0

/-! ## The deadlines of the part -/

/-- Every deadline of the part, output boundaries apart, was left or made fresh; the counter stood. -/
structure State.Rearmed (s t : State) : Prop where
  counter : t.counter = s.counter
  input : ∀ i, Rearm s.counter false (s.wetInput i).deadline (t.wetInput i).deadline
  probe : ∀ a, Rearm s.counter false (s.silenceDeadline a) (t.silenceDeadline a)
  zone : ∀ z, Zone.Rearmed s.counter (s.zone z) (t.zone z)

/-- What the deadlines of the part are made of. -/
def State.clockwork (s : State) : Stamp × Vector WetInput 4 × List ProbeEntry × Vector Zone 24 :=
  (s.counter, s.wetInputs, s.probes, s.zones)

section Operations

variable {s t u : State}

theorem State.Rearmed.refl : s.Rearmed s := ⟨rfl, fun _ => .refl, fun _ => .refl, fun _ => .refl⟩

theorem State.Rearmed.trans (h : s.Rearmed t) (k : t.Rearmed u) : s.Rearmed u := by
  obtain ⟨counter, input, probe, zone⟩ := k
  rw [h.counter] at counter input probe zone
  exact ⟨counter, fun i => (h.input i).trans (input i), fun a => (h.probe a).trans (probe a), fun z => (h.zone z).trans (zone z)⟩

theorem State.Rearmed.of_same (same : t.clockwork = s.clockwork) : s.Rearmed t := by
  simp only [State.clockwork, Prod.mk.injEq] at same
  obtain ⟨counter, inputs, probes, zones⟩ := same
  refine ⟨counter, fun i => .inl ?_, fun a => .inl ?_, fun z => ?_⟩
  · simp only [State.wetInput, inputs]
  · simp only [State.silenceDeadline, State.findProbe, probes]
  · simp only [State.zone, zones]
    exact .refl

theorem rearmed_applyDecision {z : Fin 24} {d : Decision} (h : Zone.Rearmed s.counter (s.zone z) d.zone) :
    s.Rearmed (s.applyDecision z d) := by
  refine ⟨rfl, fun _ => .refl, fun _ => .refl, fun y => ?_⟩
  by_cases own : y = z
  · rw [own, State.applyDecision_zone_same]
    exact h
  · rw [State.applyDecision_zone_other _ _ own]
    exact .refl

theorem rearmed_setZone {z : Fin 24} {r : Zone} (h : Zone.Rearmed s.counter (s.zone z) r) : s.Rearmed (s.setZone z r) :=
  rearmed_applyDecision (d := { zone := r, changes := [] }) h

theorem rearmed_evaluate_zone (s : State) (z : Fin 24) : s.Rearmed (s.evaluate z) :=
  rearmed_applyDecision (rearmed_evaluate (d := (s.zone z).untouched) .refl _)

theorem rearmed_setZone_evaluate {z : Fin 24} {r : Zone} (h : Zone.Rearmed s.counter (s.zone z) r) :
    s.Rearmed ((s.setZone z r).evaluate z) :=
  (rearmed_setZone h).trans (rearmed_evaluate_zone _ z)

theorem rearmed_foldl {α : Type} {f : State → α → State} (keep : ∀ (s : State) (a : α), s.Rearmed (f s a)) (l : List α) (s : State) :
    s.Rearmed (l.foldl f s) :=
  foldl_keeps (State.Rearmed s) (fun t a h => h.trans (keep t a)) l s .refl

theorem rearmed_post (s : State) (p : Posting) : s.Rearmed (s.post p) := .of_same rfl

theorem rearmed_afterConversion (s : State) (v : Conversion) : s.Rearmed (s.afterConversion v) := .of_same rfl

/-! ## Zones -/

theorem rearmed_push (s : State) (z : Fin 24) (stamp : Stamp) (result : Option Int) : s.Rearmed (s.push z stamp result) := by
  unfold State.push
  split
  · exact rearmed_setZone_evaluate (Zone.rearmed_push stamp result _)
  · exact .refl

theorem rearmed_slotExpiry (s : State) (z : Fin 24) (k : Fin 8) : s.Rearmed (s.slotExpiry z k) :=
  rearmed_setZone_evaluate (Zone.rearmed_expireSlot k _)

theorem rearmed_persistenceExpiry (s : State) (z : Fin 24) (p : Persistence) :
    s.Rearmed (s.applyDecision z ((s.zone z).persistenceExpiry p (s.surfaceMin z))) :=
  rearmed_applyDecision (rearmed_move (d := (s.zone z).untouched) .refl _ _ _).disarm

theorem rearmed_blindExpiry (s : State) (z : Fin 24) : s.Rearmed (s.blindExpiry z) :=
  rearmed_applyDecision (rearmed_move (d := (s.zone z).untouched) .refl _ _ _).calm.disarm

/-- A trend expiry at the count that reaches it arms the next one ahead (R28, R102). -/
theorem rearmed_trendExpiry {z : Fin 24} {a : Arming} (time : a.time = s.counter) (pos : 0 < (s.zone z).interval) :
    s.Rearmed (s.trendExpiry z a) := by
  refine rearmed_setZone_evaluate ⟨fun _ => .refl, .refl, .refl, .inr ?_⟩
  exact fresh_armed pos rfl (congrArg (deadlineAt · (s.zone z).interval) time)

theorem rearmed_writeWetFlag (s : State) (z : Fin 24) : s.Rearmed (s.writeWetFlag z) :=
  rearmed_setZone (.of_same rfl rfl rfl rfl)

theorem rearmed_recomputeFlags (s : State) (zs : List (Fin 24)) : s.Rearmed (s.recomputeFlags zs) := by
  unfold State.recomputeFlags
  exact (rearmed_foldl rearmed_writeWetFlag _ s).trans (rearmed_foldl rearmed_evaluate_zone _ _)

/-! ## Wet inputs -/

theorem rearmed_setWetInput {i : Fin 4} {r : WetInput} (h : Rearm s.counter false (s.wetInput i).deadline r.deadline) :
    s.Rearmed (s.setWetInput i r) := by
  refine ⟨rfl, fun j => ?_, fun _ => .refl, fun _ => .refl⟩
  by_cases own : j = i
  · rw [own, State.setWetInput_wetInput_same]
    exact h
  · rw [State.setWetInput_wetInput_other _ _ own]
    exact .refl

theorem rearmed_qualificationExpiry (s : State) (i : Fin 4) : s.Rearmed (s.qualificationExpiry i) := by
  unfold State.qualificationExpiry
  dsimp only
  split
  · exact ((rearmed_setWetInput .of_none).trans (rearmed_recomputeFlags _ _)).trans (rearmed_post _ _)
  · exact (rearmed_setWetInput .of_none).trans (rearmed_recomputeFlags _ _)

theorem rearm_levelChange (now : Stamp) (high : Bool) (r : WetInput) :
    Rearm now false r.deadline (r.levelChange now high).deadline := by
  unfold WetInput.levelChange
  dsimp only
  split <;> split
  · exact .inr (fresh_setDeadline _ _ _)
  · exact .refl
  · exact .refl
  · exact .of_none
  · exact .refl
  · exact .inr (fresh_setDeadline _ _ _)
  · exact .of_none
  · exact .refl

theorem rearmed_wetLevel (s : State) (i : Fin 4) (high : Bool) : s.Rearmed (State.wetLevel i high s) := by
  unfold State.wetLevel
  split
  · exact .refl
  · exact rearmed_setWetInput (rearm_levelChange _ _ _)

theorem rearm_configure (now : Stamp) (zone : Option (Fin 24)) (level : Bool) (qualify : Nat) (selection : Selection)
    (r : WetInput) : Rearm now false r.deadline (r.configure now zone level qualify selection).deadline := by
  rw [configure_spelled]
  split
  · exact .refl
  · exact .of_none

/-! ## Probes -/

/-- The silence deadlines of the other addresses stand. -/
theorem rearmed_setProbes {l : List ProbeEntry}
    (h : ∀ a, Rearm s.counter false (s.silenceDeadline a) ((s.setProbes l).silenceDeadline a)) : s.Rearmed (s.setProbes l) :=
  ⟨rfl, fun _ => .refl, h, fun _ => .refl⟩

theorem findProbe_address {a : Byte} {e : ProbeEntry} (h : s.findProbe a = some e) : e.load.address = a := by
  simpa using List.find?_some h

theorem findProbe_replaceProbe (s : State) (f : ProbeEntry) (a : Byte) :
    (s.setProbes (replaceProbe f s.probes)).findProbe a =
      if a = f.load.address then (s.findProbe a).map fun _ => f else s.findProbe a := by
  have keys : (fun e : ProbeEntry => e.load.address == a) ∘ (fun x => if x.load.address = f.load.address then f else x) =
      fun e => e.load.address == a := by
    funext x
    by_cases own : x.load.address = f.load.address <;> simp [own]
  have found : (s.setProbes (replaceProbe f s.probes)).findProbe a =
      (s.findProbe a).map fun x => if x.load.address = f.load.address then f else x := by
    simp only [State.findProbe, State.setProbes, replaceProbe, List.find?_map, keys]
  rw [found]
  cases present : s.findProbe a with
  | none => simp
  | some x =>
    have key := findProbe_address present
    by_cases own : a = f.load.address <;> simp [key, own]

/-- A new runtime part with a fresh silence deadline, or the old one. -/
theorem rearmed_replaceProbe {f : ProbeEntry}
    (h : ∀ e, s.findProbe f.load.address = some e → Rearm s.counter false e.silence f.silence) :
    s.Rearmed (s.setProbes (replaceProbe f s.probes)) := by
  refine rearmed_setProbes fun a => ?_
  simp only [State.silenceDeadline, findProbe_replaceProbe]
  by_cases own : a = f.load.address
  · subst own
    cases present : s.findProbe f.load.address with
    | none => simpa using Rearm.refl
    | some e => simpa using h e present
  · simp only [own, if_false]
    exact .refl

theorem findProbe_insertProbe (e : ProbeEntry) (l : List ProbeEntry) (a : Byte) :
    ((insertProbe e l).find? fun x => x.load.address == a) =
      if a = e.load.address then some e else l.find? fun x => x.load.address == a := by
  induction l with
  | nil => by_cases own : a = e.load.address <;> simp [insertProbe, own, eq_comm (a := e.load.address)]
  | cons x l ih =>
    unfold insertProbe
    by_cases same : x.load.address = e.load.address
    · rw [if_pos same]
      by_cases own : a = e.load.address <;> simp [own, same, eq_comm (a := e.load.address)]
    · rw [if_neg same]
      split
      · by_cases own : a = e.load.address <;> simp [own, eq_comm (a := e.load.address)]
      · rw [List.find?_cons, List.find?_cons, ih]
        by_cases own : a = e.load.address
        · have other : (x.load.address == a) = false := by simp [own, same]
          rw [other, if_pos own]
        · simp [own]

theorem rearmed_insertProbe (p : ProbeLoad) : s.Rearmed (s.setProbes (insertProbe (p.fresh s.counter) s.probes)) := by
  refine rearmed_setProbes fun a => ?_
  have found : (s.setProbes (insertProbe (p.fresh s.counter) s.probes)).findProbe a =
      if a = p.address then some (p.fresh s.counter) else s.findProbe a := findProbe_insertProbe _ _ _
  simp only [State.silenceDeadline, found]
  split
  · exact .inr (fresh_setDeadline _ _ _)
  · exact .refl

theorem rearmed_removeProbe (a : Byte) : s.Rearmed (s.setProbes (removeProbe a s.probes)) := by
  refine rearmed_setProbes fun b => ?_
  have found : (s.setProbes (removeProbe a s.probes)).findProbe b = if b = a then none else s.findProbe b := by
    simp only [State.findProbe, State.setProbes, removeProbe, List.find?_filter]
    by_cases own : b = a
    · subst own
      simp
    · have keys : (fun x : ProbeEntry => decide ((x.load.address != a) = true ∧ (x.load.address == b) = true)) =
          fun x => x.load.address == b := by
        funext x
        by_cases key : x.load.address = b <;> simp [key, own]
      rw [if_neg own]
      exact congrArg (s.probes.find? ·) keys
  simp only [State.silenceDeadline, found]
  split
  · exact .of_none
  · exact .refl

theorem rearmed_freshProbes (s : State) : s.Rearmed s.freshProbes := by
  refine rearmed_setProbes fun a => ?_
  have keys : (fun e : ProbeEntry => e.load.address == a) ∘ (fun e : ProbeEntry => e.load.fresh s.counter) =
      fun e => e.load.address == a := rfl
  have found : (s.setProbes (s.probes.map fun e => e.load.fresh s.counter)).findProbe a =
      (s.findProbe a).map fun e => e.load.fresh s.counter := by
    simp only [State.findProbe, State.setProbes, List.find?_map, keys]
  simp only [State.silenceDeadline, found]
  cases s.findProbe a with
  | none => exact .of_none
  | some e => exact .inr (fresh_setDeadline _ _ _)

theorem rearmed_updateProbe {e f : ProbeEntry}
    (h : ∀ x, s.findProbe f.load.address = some x → Rearm s.counter false x.silence f.silence) :
    s.Rearmed (s.updateProbe e f) := by
  obtain ⟨_, same⟩ | ⟨_, evaluated⟩ := s.updateProbe_cases e f
  · rw [same]
    exact rearmed_replaceProbe h
  · rw [evaluated]
    exact (rearmed_replaceProbe h).trans (rearmed_evaluate_zone _ _)

theorem rearmed_silenceExpiry (s : State) (e : ProbeEntry) : s.Rearmed (s.silenceExpiry e) :=
  (rearmed_updateProbe fun _ _ => .of_none).trans (rearmed_post _ _)

theorem rearmed_countDamage {a : Byte} {e : ProbeEntry} (present : s.findProbe a = some e) : s.Rearmed (s.countDamage e) := by
  unfold State.countDamage
  split
  · exact .refl
  · split
    · refine rearmed_updateProbe fun x found => .inl ?_
      have key := findProbe_address present
      have same : some x = some e := found.symm.trans (by rw [← present]; exact congrArg s.findProbe key)
      rw [Option.some.inj same]
    · exact (rearmed_updateProbe fun _ _ => .of_none).trans (rearmed_post _ _)

theorem rearmed_heard (s : State) (e : ProbeEntry) (stamp : Stamp) :
    s.Rearmed (s.setProbes (replaceProbe (e.heard s.counter stamp) s.probes)) :=
  rearmed_replaceProbe fun _ _ => .inr (fresh_setDeadline _ _ _)

theorem rearmed_goodSample (s : State) (e : ProbeEntry) (f : IntakeFrame) : s.Rearmed (s.goodSample e f) := by
  unfold State.goodSample
  split
  · unfold State.airSample
    dsimp only
    have heard := rearmed_heard s e f.stamp
    split
    · exact heard.trans (rearmed_push _ _ _ _)
    · split
      · exact (heard.trans (rearmed_afterConversion _ _)).trans (rearmed_push _ _ _ _)
      · exact heard.trans (rearmed_afterConversion _ _)
  · exact rearmed_updateProbe fun _ _ => .inr (fresh_setDeadline _ _ _)

/-! ## Commands -/

theorem rearmed_dropEntry (s : State) (e : ProbeEntry) : s.Rearmed (s.dropEntry e) := by
  unfold State.dropEntry
  refine State.Rearmed.trans ?_ (rearmed_evaluate_zone _ _)
  exact (rearmed_removeProbe e.load.address).trans (.of_same rfl)

theorem rearmed_restartZone (s : State) (z : Fin 24) : s.Rearmed (s.restartZone z) := by
  unfold State.restartZone
  split
  · next on =>
    rw [Zone.restart_eq _ _ on]
    exact rearmed_applyDecision (Zone.rearmed_reawakened _ _)
  · exact .refl

theorem rearmed_restartEvaluation (s : State) : s.Rearmed s.restartEvaluation := by
  obtain ⟨o, e⟩ := restartEvaluation_outputs s
  rw [e]
  have forgotten : s.Rearmed s.forgetReports := .of_same rfl
  refine State.Rearmed.trans (t := s.zonesRestarted) ?_ (.of_same rfl)
  unfold State.zonesRestarted
  refine ((forgotten.trans (rearmed_freshProbes _)).trans (rearmed_foldl rearmed_restartZone allZones _)).trans (.of_same ?_)
  simp [State.clockwork]

/-- A part with no probes, its zones and wet inputs as power-on leaves them. -/
theorem rearmed_powerOn (counter : t.counter = s.counter) (probes : t.probes = []) {now : Stamp} {inputs : Vector WetInput 4}
    (wetInputs : t.wetInputs = inputs.map fun r => WetInput.powerOn r.pin now)
    (zones : t.zones = Vector.replicate 24 Zone.powerOn) : s.Rearmed t := by
  refine ⟨counter, fun i => ?_, fun a => ?_, fun z => ?_⟩
  · have disarmed : (t.wetInput i).deadline = none := by simp [State.wetInput, wetInputs, WetInput.powerOn]
    rw [disarmed]
    exact .of_none
  · have disarmed : t.silenceDeadline a = none := by simp [State.silenceDeadline, State.findProbe, probes]
    rw [disarmed]
    exact .of_none
  · have zone : t.zone z = Zone.powerOn := by simp [State.zone, zones]
    rw [zone]
    exact ⟨rearm_noSlots rfl, .of_none, .of_none, .of_none⟩

theorem CommandEffect.rearmed (h : CommandEffect s t) : s.Rearmed t := by
  cases h with
  | restartEvaluation => exact rearmed_restartEvaluation s
  | restartFull => exact rearmed_powerOn rfl rfl (inputs := s.wetInputs) rfl rfl
  | loadNew p => exact rearmed_insertProbe p
  | loadOver p => exact rearmed_insertProbe p
  | loadDisturbing p => exact (rearmed_insertProbe p).trans (rearmed_evaluate_zone _ _)
  | dropEntry a e => exact rearmed_dropEntry s e
  | setZone z a i l g => exact rearmed_setZone (Zone.rearmed_configure _ a i l g _)
  | stageThresholds z t => exact rearmed_setZone (.of_same rfl rfl rfl rfl)
  | enableZone z =>
    rw [Zone.enable_eq]
    exact rearmed_applyDecision (Zone.rearmed_reawakened _ _)
  | disableZone z => exact rearmed_applyDecision (Zone.rearmed_disable _ _)
  | clearWindow z => exact rearmed_setZone_evaluate ⟨rearm_noSlots rfl, .refl, .refl, .refl⟩
  | setOutput i enabled zones band period fallback polarity =>
    obtain ⟨r, e⟩ := applyOutput_setOutput s i
      { s.output i with
        enabled := enabled, zones := zones, band := band, period := period, fallback := fallback, polarity := polarity }
    rw [e]
    exact .of_same rfl
  | setWetInput i zone level qualify selection =>
    exact (rearmed_setWetInput (rearm_configure _ _ _ _ _ _)).trans (rearmed_recomputeFlags _ _)
  | _ => exact .of_same rfl

end Operations

end Sys2Proof.Machine

/-! SUPPORT. No step passes an armed deadline: the third part of O6. -/

namespace Sys2Proof.Machine

open Sys2Proof Slice0

/-! ## The deadlines of the part, all alike -/

/-- Every deadline of the part, output boundaries apart, has a property; the trend deadlines are the periodic ones. -/
structure State.Deadlines (Q : Bool → Deadline → Prop) (s : State) : Prop where
  input : ∀ i, Q false (s.wetInput i).deadline
  probe : ∀ a, Q false (s.silenceDeadline a)
  slot : ∀ z k, Q false (s.slotDeadline z k)
  persistence : ∀ z, Q false (s.persistenceDeadline z)
  blind : ∀ z, Q false (s.zone z).blind
  trend : ∀ z, Q true (s.zone z).trendDeadline

/-- A deadline of the part: an operation that rearms the part rearms it. -/
def Placed (periodic : Bool) (d : State → Deadline) : Prop :=
  ∀ s t : State, s.Rearmed t → Rearm s.counter periodic (d s) (d t)

theorem placed_input (i : Fin 4) : Placed false fun s => (s.wetInput i).deadline := fun _ _ h => h.input i

theorem placed_probe (a : Byte) : Placed false fun s => s.silenceDeadline a := fun _ _ h => h.probe a

theorem placed_slot (z : Fin 24) (k : Fin 8) : Placed false fun s => s.slotDeadline z k := fun _ _ h => (h.zone z).slot k

theorem placed_persistence (z : Fin 24) : Placed false fun s => s.persistenceDeadline z := fun _ _ h => (h.zone z).persistence

theorem placed_blind (z : Fin 24) : Placed false fun s => (s.zone z).blind := fun _ _ h => (h.zone z).blind

theorem placed_trend (z : Fin 24) : Placed true fun s => (s.zone z).trendDeadline := fun _ _ h => (h.zone z).trend

theorem Placed.fresh {periodic : Bool} {d : State → Deadline} (place : Placed periodic d) {s t : State} (h : s.Rearmed t)
    (fresh : Fresh s.counter periodic (d s)) : Fresh t.counter periodic (d t) := by
  rw [h.counter]
  exact (place s t h).fresh fresh

theorem State.Rearmed.timely {s t : State} (h : s.Rearmed t) (k : s.Deadlines (Timely s.counter)) :
    t.Deadlines (Timely t.counter) := by
  rw [h.counter]
  exact ⟨fun i => (h.input i).timely (k.input i), fun a => (h.probe a).timely (k.probe a),
    fun z i => ((h.zone z).slot i).timely (k.slot z i), fun z => (h.zone z).persistence.timely (k.persistence z),
    fun z => (h.zone z).blind.timely (k.blind z), fun z => (h.zone z).trend.timely (k.trend z)⟩

/-- The zones are lawful and no deadline has been passed. -/
def State.Unpassed (s : State) : Prop := s.ZonesLawful ∧ s.Deadlines (Timely s.counter)

theorem State.Unpassed.step {s t : State} (h : s.Unpassed) (zones : t.ZonesLawful) (rearmed : s.Rearmed t) : t.Unpassed :=
  ⟨zones, rearmed.timely h.2⟩

/-! ## The law of the tables -/

/-- A property of unpassed parts that outlives every rearming is kept by every operation on the tables. -/
theorem rearm_tableLaw {P : State → Prop} (unpassed : ∀ {s}, P s → s.Unpassed)
    (closed : ∀ {s t : State}, P s → t.ZonesLawful → s.Rearmed t → P t) : TableLaw P where
  tables s := ⟨fun h => closed h (unpassed h).1 (.of_same rfl), fun h => closed h (unpassed h).1 (.of_same rfl)⟩
  verdictSent h _ := closed h (unpassed h).1 (.of_same rfl)
  postLine l h := closed h (unpassed h).1 (rearmed_post _ _)
  silence h present expired :=
    closed h (zones_tableLaw.silence (unpassed h).1 present expired) (rearmed_silenceExpiry _ _)
  slot h expired := closed h (zones_tableLaw.slot (unpassed h).1 expired) (rearmed_slotExpiry _ _ _)
  trend {s z a} h armed expired := by
    obtain ⟨zones, timely⟩ := unpassed h
    have watched : Timely s.counter true (some a) := armed ▸ timely.trend z
    obtain ⟨_, pos⟩ := (zones z).sound.trend.mp (by rw [armed]; rfl)
    exact closed h (zones_tableLaw.trend zones armed expired) (rearmed_trendExpiry (watched.time_eq expired).1 pos)
  persistence h armed expired :=
    closed h (zones_tableLaw.persistence (unpassed h).1 armed expired) (rearmed_persistenceExpiry _ _ _)
  blind h expired := closed h (zones_tableLaw.blind (unpassed h).1 expired) (rearmed_blindExpiry _ _)
  qualification h expired :=
    closed h (zones_tableLaw.qualification (unpassed h).1 expired) (rearmed_qualificationExpiry _ _)
  boundary h _ _ := closed h (unpassed h).1 (.of_same rfl)
  duty h := closed h (unpassed h).1 (.of_same rfl)
  effect h effect := closed h (zones_tableLaw.effect (unpassed h).1 effect) effect.rearmed
  damage h present := closed h (zones_tableLaw.damage (unpassed h).1 present) (rearmed_countDamage present)
  sample h present := closed h (zones_tableLaw.sample (unpassed h).1 present) (rearmed_goodSample _ _ _)
  wetLevel h := closed h (zones_tableLaw.wetLevel (unpassed h).1) (rearmed_wetLevel _ _ _)
  wetPin h := closed h (unpassed h).1 (rearmed_setWetInput .refl)

theorem unpassed_tableLaw : TableLaw State.Unpassed := rearm_tableLaw (fun h => h) fun h => h.step

/-- The part has been rearmed since `s`, and no deadline has been passed. -/
def State.RearmedSince (s t : State) : Prop := t.Unpassed ∧ s.Rearmed t

theorem rearmedSince_tableLaw (s : State) : TableLaw s.RearmedSince :=
  rearm_tableLaw (fun h => h.1) fun h zones rearmed => ⟨h.1.step zones rearmed, h.2.trans rearmed⟩

theorem State.Unpassed.since {s : State} (h : s.Unpassed) : s.RearmedSince s := ⟨h, .refl⟩

/-! ## Each expiry leaves its own deadline fresh -/

section Own

variable {s : State}

theorem qualificationExpiry_wetInputs (s : State) (i : Fin 4) :
    (s.qualificationExpiry i).wetInputs =
      (s.setWetInput i
        { s.wetInput i with
          state := if (s.wetInput i).state == .toWet then .wet else .dry, deadline := none
          capture := s.counter }).wetInputs := by
  obtain same | same := besideZones_qualificationExpiry s i <;> exact (congrArg State.wetInputs same :)

theorem qualificationExpiry_own (s : State) (i : Fin 4) : ((s.qualificationExpiry i).wetInput i).deadline = none := by
  rw [State.wetInput, qualificationExpiry_wetInputs]
  exact congrArg WetInput.deadline (State.setWetInput_wetInput_same s i _)

theorem silenceExpiry_probes (s : State) (e : ProbeEntry) :
    (s.silenceExpiry e).probes = replaceProbe { e with state := .stale, silence := none } s.probes :=
  (congrArg State.probes (besideZones_silenceExpiry s e) :)

theorem silenceExpiry_own {a : Byte} {e : ProbeEntry} (present : s.findProbe a = some e) :
    (s.silenceExpiry e).silenceDeadline a = none := by
  have found := findProbe_replaceProbe s { e with state := .stale, silence := none } a
  have key := findProbe_address present
  have same : (s.silenceExpiry e).findProbe a =
      (s.setProbes (replaceProbe { e with state := .stale, silence := none } s.probes)).findProbe a := by
    simp only [State.findProbe, silenceExpiry_probes, State.setProbes]
  rw [State.silenceDeadline, same, found]
  simp [key, present]

theorem evaluate_slots (s : State) (z : Fin 24) : ((s.evaluate z).zone z).slots = (s.zone z).slots := by
  rw [State.evaluate, State.applyDecision_zone_same]
  exact (congrArg Zone.slots (setting_evaluate (s.zone z).untouched s.counter (s.surfaceMin z)) :)

theorem slotExpiry_slots (s : State) (z : Fin 24) (k : Fin 8) :
    ((s.slotExpiry z k).zone z).slots = (s.zone z).slots.set k .empty := by
  rw [State.slotExpiry, evaluate_slots, State.setZone_zone_same]
  rfl

theorem slotExpiry_own (s : State) (z : Fin 24) (k : Fin 8) : (s.slotExpiry z k).slotDeadline z k = none := by
  simp [State.slotDeadline, Zone.slot, slotExpiry_slots, Slot.expiry]

theorem persistenceExpiry_own (s : State) (z : Fin 24) : (s.persistenceExpiry z).persistenceDeadline z = none := by
  unfold State.persistenceExpiry
  split
  · next disarmed => simp [State.persistenceDeadline, disarmed]
  · rw [State.persistenceDeadline, State.applyDecision_zone_same]
    rfl

theorem blindExpiry_own (s : State) (z : Fin 24) : ((s.blindExpiry z).zone z).blind = none := by
  rw [State.blindExpiry, State.applyDecision_zone_same]
  rfl

theorem trendExpiry_own {z : Fin 24} {a : Arming} (time : a.time = s.counter) (pos : 0 < (s.zone z).interval) :
    Fresh (s.trendExpiry z a).counter true ((s.trendExpiry z a).zone z).trendDeadline := by
  refine (placed_trend z).fresh (rearmed_evaluate_zone (s.setZone z ((s.zone z).trendStep a)) z) ?_
  rw [State.setZone_zone_same]
  exact fresh_armed pos rfl (congrArg (deadlineAt · (s.zone z).interval) time)

end Own

/-! ## The end of a count -/

section Count

variable {s : State} (h : s.Unpassed)
include h

omit h in
/-- A turn of a count: the expiry of a deadline that leaves its own deadline fresh, with what it made due at once. -/
theorem fresh_takeIfReached {periodic : Bool} {d : State → Deadline} (place : Placed periodic d) {take : State → State}
    (timely : Timely s.counter periodic (d s))
    (taken : deadlineExpired (d s) s.counter = true → (take s).Unpassed ∧ Fresh (take s).counter periodic (d (take s))) :
    Fresh (s.takeIfReached d take).counter periodic (d (s.takeIfReached d take)) := by
  obtain ⟨expired, e⟩ | ⟨ahead, e⟩ := s.takeIfReached_cases d take <;> rw [e]
  · obtain ⟨unpassed, fresh⟩ := taken expired
    exact place.fresh ((rearmedSince_tableLaw (take s)).eventLaw.toSettleLaw.settle _ unpassed.since).2 fresh
  · exact timely.fresh ahead

/-- An expiry whose operation leaves its own deadline fresh does so with the arbiter's choice. -/
theorem fresh_arbitrate {periodic : Bool} {d : State → Deadline} (place : Placed periodic d)
    (fresh : Fresh s.counter periodic (d s)) : Fresh s.arbitrate.counter periodic (d s.arbitrate) :=
  place.fresh ((rearmedSince_tableLaw s).arbitrate h.since).2 fresh

theorem fresh_inputTurn (i : Fin 4) :
    let t := s.takeIfReached (fun u => (u.wetInput i).deadline) (State.takeQualification i)
    Fresh t.counter false (t.wetInput i).deadline := by
  refine fresh_takeIfReached (placed_input i) (h.2.input i) fun expired => ?_
  refine ⟨unpassed_tableLaw.eventLaw.qualification h expired, ?_⟩
  refine fresh_arbitrate (unpassed_tableLaw.qualification h expired) (placed_input i) ?_
  rw [qualificationExpiry_own]
  exact fresh_none

theorem fresh_probeTurn (a : Byte) :
    let t := s.takeIfReached (fun u => u.silenceDeadline a) (State.takeSilence a)
    Fresh t.counter false (t.silenceDeadline a) := by
  refine fresh_takeIfReached (placed_probe a) (h.2.probe a) fun expired => ?_
  refine ⟨unpassed_tableLaw.eventLaw.silence h expired, ?_⟩
  cases present : s.findProbe a with
  | none => simp [State.silenceDeadline, present, deadlineExpired] at expired
  | some e =>
    have taken : s.takeSilence a = (s.silenceExpiry e).arbitrate := by simp only [State.takeSilence, present]
    have due : deadlineExpired e.silence s.counter = true := by simpa [State.silenceDeadline, present] using expired
    rw [taken]
    refine fresh_arbitrate (unpassed_tableLaw.silence h present due) (placed_probe a) ?_
    rw [silenceExpiry_own present]
    exact fresh_none

theorem fresh_slotTurn (z : Fin 24) (k : Fin 8) :
    let t := s.takeIfReached (fun u => u.slotDeadline z k) (State.takeSlot z k)
    Fresh t.counter false (t.slotDeadline z k) := by
  refine fresh_takeIfReached (placed_slot z k) (h.2.slot z k) fun expired => ?_
  refine ⟨unpassed_tableLaw.eventLaw.slot h expired, ?_⟩
  refine fresh_arbitrate (unpassed_tableLaw.slot h expired) (placed_slot z k) ?_
  rw [slotExpiry_own]
  exact fresh_none

theorem fresh_trendTurn (z : Fin 24) :
    let t := s.takeIfReached (fun u => (u.zone z).trendDeadline) (State.takeTrend z)
    Fresh t.counter true (t.zone z).trendDeadline := by
  refine fresh_takeIfReached (placed_trend z) (h.2.trend z) fun expired => ?_
  refine ⟨unpassed_tableLaw.eventLaw.trend h expired, ?_⟩
  obtain ⟨a, armed⟩ := Option.isSome_iff_exists.mp (isSome_of_expired expired)
  have timely : Timely s.counter true (some a) := armed ▸ h.2.trend z
  obtain ⟨_, pos⟩ := (h.1 z).sound.trend.mp (by rw [armed]; rfl)
  rw [armed] at expired
  simp only [State.takeTrend, armed]
  refine fresh_arbitrate (unpassed_tableLaw.trend h armed expired) (placed_trend z) ?_
  exact trendExpiry_own (timely.time_eq expired).1 pos

theorem fresh_persistenceTurn (z : Fin 24) :
    let t := s.takeIfReached (fun u => u.persistenceDeadline z) (State.takePersistence z)
    Fresh t.counter false (t.persistenceDeadline z) := by
  refine fresh_takeIfReached (placed_persistence z) (h.2.persistence z) fun expired => ?_
  refine ⟨unpassed_tableLaw.eventLaw.persistence h expired, ?_⟩
  have unpassed : (s.persistenceExpiry z).Unpassed := by
    unfold State.persistenceExpiry
    split
    · exact h
    · next p armed =>
      rw [State.persistenceDeadline, armed] at expired
      exact unpassed_tableLaw.persistence h armed expired
  refine fresh_arbitrate unpassed (placed_persistence z) ?_
  rw [persistenceExpiry_own]
  exact fresh_none

theorem fresh_blindTurn (z : Fin 24) :
    let t := s.takeIfReached (fun u => (u.zone z).blind) (State.takeBlind z)
    Fresh t.counter false (t.zone z).blind := by
  refine fresh_takeIfReached (placed_blind z) (h.2.blind z) fun expired => ?_
  refine ⟨unpassed_tableLaw.eventLaw.blind h expired, ?_⟩
  refine fresh_arbitrate (unpassed_tableLaw.blind h expired) (placed_blind z) ?_
  rw [blindExpiry_own]
  exact fresh_none

end Count

/-! ## The end of a count in its four stages (R27) -/

def State.inputsTurn (s : State) : State :=
  allUnits.foldl (fun t i => t.takeIfReached (fun u => (u.wetInput i).deadline) (State.takeQualification i)) s

def State.probesTurn (s : State) : State :=
  (s.probes.map fun e => e.load.address).foldl
    (fun t a => t.takeIfReached (fun u => u.silenceDeadline a) (State.takeSilence a)) s

def State.zonesTurn (s : State) : State := allZones.foldl State.takeReachedZone s

def State.outputsTurn (s : State) : State := allUnits.foldl State.outputTurn s

theorem takeReached_stages (s : State) : s.takeReached = s.inputsTurn.probesTurn.zonesTurn.outputsTurn := rfl

/-- The deadlines of one zone are fresh. -/
structure State.ZoneFresh (z : Fin 24) (s : State) : Prop where
  slot : ∀ k, Fresh s.counter false (s.slotDeadline z k)
  trend : Fresh s.counter true (s.zone z).trendDeadline
  persistence : Fresh s.counter false (s.persistenceDeadline z)
  blind : Fresh s.counter false (s.zone z).blind

theorem State.ZoneFresh.rearmed {z : Fin 24} {s t : State} (h : s.ZoneFresh z) (k : s.Rearmed t) : t.ZoneFresh z :=
  ⟨fun i => (placed_slot z i).fresh k (h.slot i), (placed_trend z).fresh k h.trend, (placed_persistence z).fresh k h.persistence,
    (placed_blind z).fresh k h.blind⟩

section Ends

variable {s : State} (h : s.Unpassed)
include h

theorem since_slotTurn (z : Fin 24) (k : Fin 8) :
    s.RearmedSince (s.takeIfReached (fun u => u.slotDeadline z k) (State.takeSlot z k)) :=
  (rearmedSince_tableLaw s).eventLaw.takeIfReached (fun _ => (rearmedSince_tableLaw s).eventLaw.slot) s h.since

theorem since_trendTurn (z : Fin 24) :
    s.RearmedSince (s.takeIfReached (fun u => (u.zone z).trendDeadline) (State.takeTrend z)) :=
  (rearmedSince_tableLaw s).eventLaw.takeIfReached (fun _ => (rearmedSince_tableLaw s).eventLaw.trend) s h.since

theorem since_persistenceTurn (z : Fin 24) :
    s.RearmedSince (s.takeIfReached (fun u => u.persistenceDeadline z) (State.takePersistence z)) :=
  (rearmedSince_tableLaw s).eventLaw.takeIfReached (fun _ => (rearmedSince_tableLaw s).eventLaw.persistence) s h.since

theorem since_blindTurn (z : Fin 24) : s.RearmedSince (s.takeIfReached (fun u => (u.zone z).blind) (State.takeBlind z)) :=
  (rearmedSince_tableLaw s).eventLaw.takeIfReached (fun _ => (rearmedSince_tableLaw s).eventLaw.blind) s h.since

theorem since_inputTurn (i : Fin 4) :
    s.RearmedSince (s.takeIfReached (fun u => (u.wetInput i).deadline) (State.takeQualification i)) :=
  (rearmedSince_tableLaw s).eventLaw.takeIfReached (fun _ => (rearmedSince_tableLaw s).eventLaw.qualification) s h.since

theorem since_probeTurn (a : Byte) : s.RearmedSince (s.takeIfReached (fun u => u.silenceDeadline a) (State.takeSilence a)) :=
  (rearmedSince_tableLaw s).eventLaw.takeIfReached (fun _ => (rearmedSince_tableLaw s).eventLaw.silence) s h.since

theorem since_zoneTurn (z : Fin 24) : s.RearmedSince (s.takeReachedZone z) :=
  (rearmedSince_tableLaw s).eventLaw.takeReachedZone s z h.since

theorem since_outputTurn (i : Fin 4) : s.RearmedSince (s.outputTurn i) := by
  have law := (rearmedSince_tableLaw s).eventLaw.toCountLaw
  exact law.duty (law.takeIfReached (fun _ => law.boundary) s h.since)

theorem zoneFresh_takeReachedZone (z : Fin 24) : (s.takeReachedZone z).ZoneFresh z := by
  have slots := foldl_reaches (P := State.Unpassed) (Q := fun k u => Fresh u.counter false (u.slotDeadline z k))
    (f := fun u k => u.takeIfReached (fun v => v.slotDeadline z k) (State.takeSlot z k))
    (fun u k hu => (since_slotTurn hu z k).1) (fun u j k hu hk => (placed_slot z k).fresh (since_slotTurn hu z j).2 hk)
    (fun u k hu => fresh_slotTurn hu z k) allSlots s h
  obtain ⟨aired, slot⟩ := slots
  have trended := since_trendTurn aired z
  have persisted := since_persistenceTurn trended.1 z
  have blinded := since_blindTurn persisted.1 z
  have later := persisted.2.trans blinded.2
  exact ⟨fun k => (placed_slot z k).fresh (trended.2.trans later) (slot k (.inl (List.mem_finRange k))),
    (placed_trend z).fresh later (fresh_trendTurn aired z),
    (placed_persistence z).fresh blinded.2 (fresh_persistenceTurn trended.1 z), fresh_blindTurn persisted.1 z⟩

omit h in
theorem since_foldl {α : Type} {f : State → α → State} (turn : ∀ (u : State) (a : α), u.Unpassed → u.RearmedSince (f u a))
    (l : List α) (h : s.Unpassed) : s.RearmedSince (l.foldl f s) :=
  foldl_keeps s.RearmedSince
    (fun u a ⟨unpassed, rearmed⟩ => ⟨(turn u a unpassed).1, rearmed.trans (turn u a unpassed).2⟩) l s h.since

theorem since_inputsTurn : s.RearmedSince s.inputsTurn := since_foldl (fun _ i hu => since_inputTurn hu i) _ h

theorem since_probesTurn : s.RearmedSince s.probesTurn := since_foldl (fun _ a hu => since_probeTurn hu a) _ h

theorem since_zonesTurn : s.RearmedSince s.zonesTurn := since_foldl (fun _ z hu => since_zoneTurn hu z) _ h

theorem since_outputsTurn : s.RearmedSince s.outputsTurn := since_foldl (fun _ i hu => since_outputTurn hu i) _ h

theorem fresh_inputsTurn (i : Fin 4) : Fresh s.inputsTurn.counter false (s.inputsTurn.wetInput i).deadline :=
  (foldl_reaches (P := State.Unpassed) (Q := fun i u => Fresh u.counter false (u.wetInput i).deadline)
    (fun _ j hu => (since_inputTurn hu j).1) (fun _ j k hu hk => (placed_input k).fresh (since_inputTurn hu j).2 hk)
    (fun _ j hu => fresh_inputTurn hu j) allUnits s h).2 i (.inl (List.mem_finRange i))

theorem fresh_probesTurn (a : Byte) : Fresh s.probesTurn.counter false (s.probesTurn.silenceDeadline a) := by
  refine (foldl_reaches (P := State.Unpassed) (Q := fun a u => Fresh u.counter false (u.silenceDeadline a))
    (fun _ b hu => (since_probeTurn hu b).1) (fun _ b c hu hc => (placed_probe c).fresh (since_probeTurn hu b).2 hc)
    (fun _ b hu => fresh_probeTurn hu b) (s.probes.map fun e => e.load.address) s h).2 a ?_
  by_cases listed : a ∈ s.probes.map fun e => e.load.address
  · exact .inl listed
  · have absent : s.findProbe a = none := (findProbe_eq_none_iff s a).mpr listed
    rw [State.silenceDeadline, absent]
    exact .inr fresh_none

theorem zoneFresh_zonesTurn (z : Fin 24) : s.zonesTurn.ZoneFresh z :=
  (foldl_reaches (P := State.Unpassed) (Q := State.ZoneFresh) (fun _ y hu => (since_zoneTurn hu y).1)
    (fun _ y _ hu hx => hx.rearmed (since_zoneTurn hu y).2) (fun _ y hu => zoneFresh_takeReachedZone hu y) allZones s h).2 z
    (.inl (List.mem_finRange z))

/-- After the expiries of a count every deadline is fresh (R27). -/
theorem fresh_takeReached : s.takeReached.Deadlines (Fresh s.takeReached.counter) := by
  rw [takeReached_stages]
  have qualified := since_inputsTurn h
  have heard := since_probesTurn qualified.1
  have aired := since_zonesTurn heard.1
  have driven := since_outputsTurn aired.1
  have zones (z : Fin 24) := (zoneFresh_zonesTurn heard.1 z).rearmed driven.2
  refine ⟨fun i => (placed_input i).fresh ((heard.2.trans aired.2).trans driven.2) (fresh_inputsTurn h i),
    fun a => (placed_probe a).fresh (aired.2.trans driven.2) (fresh_probesTurn qualified.1 a), fun z => (zones z).slot,
    fun z => (zones z).persistence, fun z => (zones z).blind, fun z => (zones z).trend⟩

theorem fresh_finishCount : s.finishCount.Deadlines (Fresh s.finishCount.counter) := by
  unfold State.finishCount
  split
  · next quiet =>
    obtain ⟨inputs, probes, zones, _⟩ := (nothingReached_iff s).mp quiet
    obtain ⟨input, probe, slot, persistence, blind, trend⟩ := h.2
    refine ⟨fun i => (input i).fresh (inputs i), fun a => (probe a).fresh ?_, fun z k => (slot z k).fresh ((zones z).1 k),
      fun z => (persistence z).fresh (zones z).2.2.1, fun z => (blind z).fresh (zones z).2.2.2,
      fun z => (trend z).fresh (zones z).2.1⟩
    cases present : s.findProbe a with
    | none => simp [State.silenceDeadline, present, deadlineExpired]
    | some e =>
      simpa [State.silenceDeadline, present] using probes e (List.mem_of_find?_eq_some present)
  · exact fresh_takeReached h

theorem unpassed_finishCount : s.finishCount.Unpassed := unpassed_tableLaw.eventLaw.toCountLaw.finishCount s h

/-- A TICK passes no deadline. -/
theorem unpassed_tick : s.tick.Unpassed := by
  obtain ⟨input, probe, slot, persistence, blind, trend⟩ := fresh_finishCount h
  exact ⟨(unpassed_finishCount h).1, fun i => (input i).counted, fun a => (probe a).counted, fun z k => (slot z k).counted,
    fun z => (persistence z).counted, fun z => (blind z).counted, fun z => (trend z).counted⟩

end Ends

/-! ## Every step -/

theorem timely_iff {now : Stamp} {d : Deadline} :
    Timely now false d ↔ onTime now d := by
  constructor
  · intro h a armed
    exact (h a armed).imp And.left And.right
  · intro h a armed
    cases due : a.due with
    | true => exact .inl ⟨rfl, rfl⟩
    | false => exact .inr ⟨rfl, (h a armed).resolve_left (by simp [due])⟩

theorem timely_periodic_iff {now : Stamp} {d : Deadline} :
    Timely now true d ↔ onTime now d ∧ deadlineDue d = false := by
  cases d with
  | none => exact ⟨fun _ => ⟨nofun, rfl⟩, fun _ => nofun⟩
  | some a =>
    constructor
    · intro h
      obtain ⟨_, absurd⟩ | ⟨due, within⟩ := h a rfl
      · cases absurd
      · exact ⟨fun b armed => .inr (Option.some.inj armed ▸ within), due⟩
    · rintro ⟨h, notDue⟩ b armed
      obtain rfl := Option.some.inj armed
      have due : a.due = false := notDue
      exact .inr ⟨due, (h a rfl).resolve_left (by simp [due])⟩

theorem unpassed_of_onTime {s : State} (zones : s.ZonesLawful) (h : s.DeadlinesOnTime) : s.Unpassed := by
  obtain ⟨inputs, probes, places, _⟩ := h
  refine ⟨zones, fun i => timely_iff.mpr (inputs i), fun a => timely_iff.mpr ?_, fun z k => timely_iff.mpr ((places z).1 k),
    fun z => timely_iff.mpr (places z).2.1, fun z => timely_iff.mpr (places z).2.2.1,
    fun z => timely_periodic_iff.mpr (places z).2.2.2⟩
  cases present : s.findProbe a with
  | none => simp [State.silenceDeadline, present, onTime]
  | some e => simpa [State.silenceDeadline, present] using probes e (List.mem_of_find?_eq_some present)

theorem unpassed_coldStart (s : State) (own : Byte) (low : Bool) : (s.coldStart own low).Unpassed :=
  (unpassed_of_onTime (zones_powerOn rfl) deadlinesOnTime_reset).step (s := State.reset) (zones_powerOn rfl)
    (rearmed_powerOn rfl rfl (inputs := s.wetInputs) rfl rfl)

theorem unpassed_step {s t : State} (h : s.Unpassed) (e : step s = .next t) : t.Unpassed :=
  unpassed_tableLaw.eventLaw.step (fun _ _ hu => hu.step hu.1 (.of_same rfl)) (fun _ hu => unpassed_tick hu)
    (fun s own low _ => unpassed_coldStart s own low) h e

/-- In a lawful table the deadline of an address is that of its entry. -/
theorem silenceDeadline_of_mem {s : State} (law : s.ProbeTableLawful) {e : ProbeEntry} (member : e ∈ s.probes) :
    s.silenceDeadline e.load.address = e.silence := by
  obtain ⟨_, order, _⟩ := (probeTableLawful_iff s).mp law
  obtain ⟨f, present⟩ := Option.isSome_iff_exists.mp ((findProbe_isSome_iff s e.load.address).mpr (mem_addresses member))
  have same : f = e := Ascending.entry_unique order (List.mem_of_find?_eq_some present) member (findProbe_address present)
  rw [State.silenceDeadline, present, same]
  rfl

/-- A boundary lies at most one period ahead (R142). -/
theorem onTime_boundary {o : Output} {now : Stamp} (law : o.Lawful) (timing : o.OnTime now) : onTime now o.boundary := by
  obtain ⟨_, armed, _, period, _⟩ := law
  intro a same
  have on : o.enabled = true := armed.mp (by rw [same]; rfl)
  obtain ⟨within, boundary, _⟩ := timing on
  have small := (period on).2
  rw [same] at boundary
  obtain rfl := Option.some.inj boundary
  rw [elapsed_eq] at within
  have := now.isLt
  have := o.start.isLt
  have time : (o.start + BitVec.ofNat 24 o.periodInForce).toNat = (o.start.toNat + o.periodInForce) % 16777216 := by
    simp only [BitVec.toNat_add, BitVec.toNat_ofNat]
    omega
  right
  rw [toNat_sub_stamp, time]
  omega

theorem onTime_of_unpassed {s : State} (table : s.ProbeTableLawful) (outputs : s.OutputsLawful) (h : s.Unpassed) :
    s.DeadlinesOnTime := by
  obtain ⟨_, input, probe, slot, persistence, blind, trend⟩ := h
  refine ⟨fun i => timely_iff.mp (input i), fun e member => ?_, fun z => ⟨fun k => timely_iff.mp (slot z k),
    timely_iff.mp (persistence z), timely_iff.mp (blind z), timely_periodic_iff.mp (trend z)⟩, fun i => ?_⟩
  · rw [← silenceDeadline_of_mem table member]
    exact timely_iff.mp (probe _)
  · exact onTime_boundary (outputs i).1 (outputs i).2

/-- A step keeps the deadlines on time: the third part of O6 (R25, R27). -/
theorem deadlinesOnTime_step {s t : State} (table : s.ProbeTableLawful) (zones : s.ZonesLawful) (outputs : s.OutputsLawful)
    (onTime : s.DeadlinesOnTime) (e : step s = .next t) : t.DeadlinesOnTime := by
  exact onTime_of_unpassed (probeTableLawful_step table e) (outputsLawful_step outputs e)
    (unpassed_step (unpassed_of_onTime zones onTime) e)

end Sys2Proof.Machine

/-! SUPPORT. With no RESPONSE waiting behind an IDLE transmitter an expiry runs no command, and moves only what its
rule names. -/

namespace Sys2Proof.Machine

open Sys2Proof Slice0

/-! ## The arbiter with nothing to answer (R158) -/

/-- An IDLE station transmitter has no RESPONSE waiting, so that no choice of the arbiter lets a held COMMAND run. -/
def State.Quiet (s : State) : Prop := s.stationTx.sender = .idle → s.response = none

theorem State.NothingWaitsIdle.quiet {s : State} (h : s.NothingWaitsIdle) : s.Quiet := fun idle => (h.1 idle).1

theorem choose_response_none {s : State} (h : s.response = none) : s.choose.response = none := by
  have forwarded : s.sendForwarded.response = none := by
    unfold State.sendForwarded
    split <;> exact h
  unfold State.choose
  rw [h]
  dsimp only
  split
  · exact forwarded
  · split
    · rfl
    · exact forwarded

/-- What an expiry can move at all: the clockwork and the outputs. -/
def State.works (s : State) : Vector Output 4 × Stamp × Vector WetInput 4 × List ProbeEntry × Vector Zone 24 :=
  (s.outputs, s.clockwork)

theorem works_of_tableSide {s t : State} (h : t.tableSide = s.tableSide) : t.works = s.works := (congrArg State.works h :)

theorem quiet_arbitrate {s : State} (quiet : s.Quiet) : s.arbitrate.Quiet ∧ s.arbitrate.works = s.works := by
  unfold State.arbitrate
  split
  · next idle =>
    have unanswered : s.response = none := quiet (by simpa [Transmitter.isIdle] using idle)
    refine ⟨fun _ => choose_response_none unanswered, ?_⟩
    obtain same | ⟨v, rest, _, same⟩ := tableSide_choose_unanswered unanswered
    · exact works_of_tableSide same
    · exact (congrArg State.works same :)
  · exact ⟨quiet, rfl⟩

/-- An operation that leaves the transmitter and the response slot alone keeps the part quiet, with the arbiter's choice. -/
theorem quiet_taken {s t : State} (quiet : s.Quiet) (station : t.stationTx = s.stationTx)
    (response : t.response = s.response) : t.arbitrate.Quiet ∧ t.arbitrate.works = t.works :=
  quiet_arbitrate fun idle => response.trans (quiet (by rw [← station]; exact idle))

/-! ## Expiries of a zone -/

/-- From `s` to `t` the part stays quiet, and among what expiries can move only the zones' records move. -/
structure OnlyZones (s t : State) : Prop where
  quiet : t.Quiet
  outputs : t.outputs = s.outputs
  counter : t.counter = s.counter
  inputs : t.wetInputs = s.wetInputs
  probes : t.probes = s.probes

/-- Only the record of zone `z` moves. -/
structure OnlyZone (z : Fin 24) (s t : State) : Prop extends OnlyZones s t where
  others : ∀ y, y ≠ z → t.zone y = s.zone y

theorem OnlyZones.refl {s : State} (quiet : s.Quiet) : OnlyZones s s := ⟨quiet, rfl, rfl, rfl, rfl⟩

theorem OnlyZones.trans {s t u : State} (h : OnlyZones s t) (k : OnlyZones t u) : OnlyZones s u :=
  ⟨k.quiet, k.outputs.trans h.outputs, k.counter.trans h.counter, k.inputs.trans h.inputs, k.probes.trans h.probes⟩

theorem OnlyZone.refl {z : Fin 24} {s : State} (quiet : s.Quiet) : OnlyZone z s s := ⟨.refl quiet, fun _ _ => rfl⟩

theorem OnlyZone.trans {z : Fin 24} {s t u : State} (h : OnlyZone z s t) (k : OnlyZone z t u) : OnlyZone z s u :=
  ⟨h.toOnlyZones.trans k.toOnlyZones, fun y other => (k.others y other).trans (h.others y other)⟩

theorem evaluate_others (s : State) {y z : Fin 24} (other : y ≠ z) : (s.evaluate z).zone y = s.zone y :=
  State.applyDecision_zone_other s _ other

section Zones

variable {s : State} (quiet : s.Quiet) (z : Fin 24)
include quiet

/-- An operation on the zones that moves zone `z` alone, with the arbiter's choice. -/
theorem onlyZone_arbitrate {t : State} (beside : t.besideZones = s.besideZones) (others : ∀ y, y ≠ z → t.zone y = s.zone y) :
    OnlyZone z s t.arbitrate ∧ t.arbitrate.zones = t.zones := by
  have station : t.stationTx = s.stationTx := (congrArg State.stationTx beside :)
  have response : t.response = s.response := (congrArg State.response beside :)
  obtain ⟨calm, works⟩ := quiet_taken quiet station response
  simp only [State.works, State.clockwork, Prod.mk.injEq] at works
  obtain ⟨outputs, counter, inputs, probes, zones⟩ := works
  refine ⟨⟨⟨calm, outputs.trans (congrArg State.outputs beside :), counter.trans (congrArg State.counter beside :),
    inputs.trans (congrArg State.wetInputs beside :), probes.trans (congrArg State.probes beside :)⟩, fun y other => ?_⟩,
    zones⟩
  rw [← others y other]
  simp only [State.zone, zones]

theorem onlyZone_takeSlot (k : Fin 8) :
    OnlyZone z s (s.takeSlot z k) ∧ ((s.takeSlot z k).zone z).slots = (s.zone z).slots.set k .empty := by
  obtain ⟨only, zones⟩ := onlyZone_arbitrate quiet z (besideZones_slotExpiry s z k) fun y other =>
    (evaluate_others _ other).trans (State.applyDecision_zone_other s { zone := (s.zone z).expireSlot k, changes := [] } other)
  refine ⟨only, ?_⟩
  rw [← slotExpiry_slots]
  exact congrArg (fun zs : Vector Zone 24 => zs[z].slots) zones

/-- A persistence expiry disarms the zone's persistence and leaves its window. -/
theorem onlyZone_takePersistence :
    OnlyZone z s (s.takePersistence z) ∧ (s.takePersistence z).persistenceDeadline z = none ∧
      ((s.takePersistence z).zone z).slots = (s.zone z).slots := by
  have own := persistenceExpiry_own s z
  have shape : (s.persistenceExpiry z).besideZones = s.besideZones ∧
      (∀ y, y ≠ z → (s.persistenceExpiry z).zone y = s.zone y) ∧
      ((s.persistenceExpiry z).zone z).slots = (s.zone z).slots := by
    unfold State.persistenceExpiry
    split
    · exact ⟨rfl, fun _ _ => rfl, rfl⟩
    · refine ⟨besideZones_applyDecision _ _ _, fun y other => State.applyDecision_zone_other _ _ other, ?_⟩
      rw [State.applyDecision_zone_same]
      exact (congrArg Zone.slots (setting_move (s.zone z).untouched _ _ _) :)
  obtain ⟨beside, others, slots⟩ := shape
  obtain ⟨only, zones⟩ := onlyZone_arbitrate quiet z beside others
  have record : (s.takePersistence z).zone z = (s.persistenceExpiry z).zone z :=
    congrArg (fun zs : Vector Zone 24 => zs[z]) zones
  refine ⟨only, ?_, ?_⟩
  · rw [State.persistenceDeadline, record]
    exact own
  · rw [record, slots]

/-- A blind expiry disarms both deadlines of the zone's state and leaves its window. -/
theorem onlyZone_takeBlind :
    OnlyZone z s (s.takeBlind z) ∧ (s.takeBlind z).persistenceDeadline z = none ∧ ((s.takeBlind z).zone z).blind = none ∧
      ((s.takeBlind z).zone z).slots = (s.zone z).slots := by
  obtain ⟨only, zones⟩ := onlyZone_arbitrate quiet z (besideZones_blindExpiry s z) fun y other =>
    State.applyDecision_zone_other s _ other
  have record : (s.takeBlind z).zone z = ((s.zone z).blindExpiry (s.surfaceMin z)).zone :=
    (congrArg (fun zs : Vector Zone 24 => zs[z]) zones).trans (State.applyDecision_zone_same s z _)
  rw [State.persistenceDeadline, record]
  exact ⟨only, rfl, rfl, (congrArg Zone.slots (setting_move (s.zone z).untouched _ _ _) :)⟩

end Zones

/-! ## All the due expiries of the zones -/

theorem slotDeadline_congr {s t : State} {z : Fin 24} (h : (t.zone z).slots = (s.zone z).slots) (k : Fin 8) :
    t.slotDeadline z k = s.slotDeadline z k := by
  simp only [State.slotDeadline, Zone.slot, h]

theorem takeSlot_slotDeadline {s : State} (quiet : s.Quiet) (z : Fin 24) (k j : Fin 8) :
    (s.takeSlot z k).slotDeadline z j = if j = k then none else s.slotDeadline z j := by
  obtain ⟨_, slots⟩ := onlyZone_takeSlot quiet z k
  simp only [State.slotDeadline, Zone.slot, slots]
  by_cases own : j = k
  · subst own
    simp [Slot.expiry]
  · simp [own, Fin.val_ne_iff.mpr (Ne.symm own)]

theorem zoneCalm_of_zone {s t : State} {z : Fin 24} (same : t.zone z = s.zone z) (h : zoneCalm s z) : zoneCalm t z := by
  simpa only [zoneCalm, slotsCalm, State.slotDeadline, State.persistenceDeadline, same] using h

/-- The due slots of a zone, taken in their order. -/
def State.takeDueSlots (z : Fin 24) (s : State) : State :=
  allSlots.foldl (fun t k => t.takeIfDue (fun u => deadlineDue (u.slotDeadline z k)) (State.takeSlot z k)) s

/-- A persistence of a zone that is due, and then a blind grace. -/
def State.takeDueState (z : Fin 24) (s : State) : State :=
  (s.takeIfDue (fun u => deadlineDue (u.persistenceDeadline z)) (State.takePersistence z)).takeIfDue
    (fun u => deadlineDue (u.zone z).blind) (State.takeBlind z)

theorem takeDueZone_eq (s : State) (z : Fin 24) : s.takeDueZone z = (s.takeDueSlots z).takeDueState z := rfl

theorem takeIfDue_of_due {s : State} (d : State → Deadline) (h : deadlineDue (d s) = true) (take : State → State) :
    s.takeIfDue (fun u => deadlineDue (d u)) take = take s := if_pos h

theorem takeIfDue_of_not {s : State} (d : State → Deadline) (h : deadlineDue (d s) = false) (take : State → State) :
    s.takeIfDue (fun u => deadlineDue (d u)) take = s := if_neg (by simp [h])

theorem onlyZone_takeDueSlots {s : State} (quiet : s.Quiet) (z : Fin 24) :
    OnlyZone z s (s.takeDueSlots z) ∧ slotsCalm (s.takeDueSlots z) z := by
  have step (u : State) (k : Fin 8) (hu : u.Quiet) :
      let t := u.takeIfDue (fun v => deadlineDue (v.slotDeadline z k)) (State.takeSlot z k)
      OnlyZone z u t ∧ ∀ j, deadlineDue (t.slotDeadline z j) = false ∨ (j ≠ k ∧ t.slotDeadline z j = u.slotDeadline z j) := by
    obtain ⟨due, e⟩ | ⟨notDue, e⟩ := u.takeIfDue_cases (fun v => deadlineDue (v.slotDeadline z k)) (State.takeSlot z k)
    · rw [e]
      refine ⟨(onlyZone_takeSlot hu z k).1, fun j => ?_⟩
      rw [takeSlot_slotDeadline hu]
      by_cases own : j = k
      · simp [own, deadlineDue]
      · simp [own]
    · rw [e]
      refine ⟨.refl hu, fun j => ?_⟩
      by_cases own : j = k
      · exact .inl (own ▸ notDue)
      · exact .inr ⟨own, rfl⟩
  obtain ⟨only, calm⟩ := foldl_reaches (P := OnlyZone z s) (Q := fun j u => deadlineDue (u.slotDeadline z j) = false)
    (fun u k hu => hu.trans (step u k hu.quiet).1)
    (fun u k j hu hj => ((step u k hu.quiet).2 j).elim id fun ⟨_, same⟩ => same ▸ hj)
    (fun u k hu => ((step u k hu.quiet).2 k).resolve_right fun ⟨other, _⟩ => other rfl) allSlots s (.refl quiet)
  exact ⟨only, fun k => calm k (.inl (List.mem_finRange k))⟩

theorem onlyZone_takeDueState {s : State} (quiet : s.Quiet) {z : Fin 24} (slots : slotsCalm s z) :
    OnlyZone z s (s.takeDueState z) ∧ zoneCalm (s.takeDueState z) z := by
  have persisted : ∃ t, s.takeIfDue (fun u => deadlineDue (u.persistenceDeadline z)) (State.takePersistence z) = t ∧
      OnlyZone z s t ∧ deadlineDue (t.persistenceDeadline z) = false ∧ (t.zone z).slots = (s.zone z).slots := by
    obtain ⟨_, e⟩ | ⟨notDue, e⟩ :=
      s.takeIfDue_cases (fun u => deadlineDue (u.persistenceDeadline z)) (State.takePersistence z)
    · obtain ⟨only, disarmed, kept⟩ := onlyZone_takePersistence quiet z
      exact ⟨_, e, only, by rw [disarmed]; rfl, kept⟩
    · exact ⟨s, e, .refl quiet, notDue, rfl⟩
  obtain ⟨t, e, only, disarmed, kept⟩ := persisted
  have calm : slotsCalm t z := fun k => by rw [slotDeadline_congr kept]; exact slots k
  rw [State.takeDueState, e]
  obtain ⟨_, e⟩ | ⟨notDue, e⟩ := t.takeIfDue_cases (fun u => deadlineDue (u.zone z).blind) (State.takeBlind z) <;> rw [e]
  · obtain ⟨later, persistence, blind, same⟩ := onlyZone_takeBlind only.quiet z
    refine ⟨only.trans later, fun k => ?_, ?_, ?_⟩
    · rw [slotDeadline_congr same]
      exact calm k
    · rw [persistence]
      rfl
    · rw [blind]
      rfl
  · exact ⟨only, calm, disarmed, notDue⟩

theorem onlyZone_takeDueZone {s : State} (quiet : s.Quiet) (z : Fin 24) :
    OnlyZone z s (s.takeDueZone z) ∧ zoneCalm (s.takeDueZone z) z := by
  obtain ⟨aired, slots⟩ := onlyZone_takeDueSlots quiet z
  obtain ⟨only, calm⟩ := onlyZone_takeDueState aired.quiet slots
  exact ⟨aired.trans only, calm⟩

theorem zoneCalm_takeDueZone {s : State} (quiet : s.Quiet) (y : Fin 24) {z : Fin 24} (h : zoneCalm s z) :
    zoneCalm (s.takeDueZone y) z := by
  obtain ⟨only, calm⟩ := onlyZone_takeDueZone quiet y
  by_cases own : z = y
  · rw [own]
    exact calm
  · exact zoneCalm_of_zone (only.others z own) h

theorem onlyZones_takeDueZones {s : State} (quiet : s.Quiet) :
    OnlyZones s s.takeDueZones ∧ ∀ z, zoneCalm s.takeDueZones z := by
  obtain ⟨only, calm⟩ := foldl_reaches (P := OnlyZones s) (Q := fun z u => zoneCalm u z) (f := State.takeDueZone)
    (fun _ y hu => hu.trans (onlyZone_takeDueZone hu.quiet y).1.toOnlyZones)
    (fun _ y _ hu hz => zoneCalm_takeDueZone hu.quiet y hz)
    (fun _ y hu => (onlyZone_takeDueZone hu.quiet y).2) allZones s (.refl quiet)
  exact ⟨only, fun z => calm z (.inl (List.mem_finRange z))⟩

/-! ## With nothing due nothing is taken -/

theorem takeDueSlots_calm {s : State} {z : Fin 24} (h : slotsCalm s z) : s.takeDueSlots z = s :=
  List.foldl_fixed' (fun k => takeIfDue_of_not (fun u => u.slotDeadline z k) (h k) _) _

theorem takeDueZone_calm {s : State} {z : Fin 24} (h : zoneCalm s z) : s.takeDueZone z = s := by
  obtain ⟨slots, persistence, blind⟩ := h
  rw [takeDueZone_eq, takeDueSlots_calm slots, State.takeDueState,
    takeIfDue_of_not (fun u => u.persistenceDeadline z) persistence, takeIfDue_of_not (fun u => (u.zone z).blind) blind]

theorem takeDueZones_calm {s : State} (h : ∀ z, zoneCalm s z) : s.takeDueZones = s :=
  List.foldl_fixed' (fun z => takeDueZone_calm (h z)) _

end Sys2Proof.Machine

/-! SUPPORT. All that is due is taken, once each, and nothing due is left: O6. -/

namespace Sys2Proof.Machine

open Sys2Proof Slice0

/-! ## The due qualifications -/

/-- The qualifications that are due, each with what it makes due in the zones. -/
def State.takeDueInputs (s : State) : State :=
  allUnits.foldl
    (fun t i =>
      t.takeIfDue (fun u => deadlineDue (u.wetInput i).deadline) fun u => (State.takeQualification i u).takeDueZones) s

/-- The silences that are due, each with what it makes due in the zones. -/
def State.takeDueProbes (s : State) : State :=
  (addresses s.probes).foldl
    (fun t a => t.takeIfDue (fun u => deadlineDue (u.silenceDeadline a)) fun u => (State.takeSilence a u).takeDueZones) s

theorem takeDue_stages (s : State) : s.takeDue = s.takeDueZones.takeDueInputs.takeDueProbes := rfl

/-- From `s` to `t` nothing moves but the zones, which are calm, and the wet inputs. -/
structure InputStage (s t : State) : Prop where
  quiet : t.Quiet
  outputs : t.outputs = s.outputs
  counter : t.counter = s.counter
  probes : t.probes = s.probes
  calm : ∀ z, zoneCalm t z

theorem takeQualification_stage {s : State} (quiet : s.Quiet) (i : Fin 4) :
    let t := s.takeQualification i
    t.Quiet ∧ t.outputs = s.outputs ∧ t.counter = s.counter ∧ t.probes = s.probes ∧
      (t.wetInput i).deadline = none ∧ ∀ j, j ≠ i → t.wetInput j = s.wetInput j := by
  have own := qualificationExpiry_own s i
  have inputs := qualificationExpiry_wetInputs s i
  have shape : (s.qualificationExpiry i).stationTx = s.stationTx ∧ (s.qualificationExpiry i).response = s.response ∧
      (s.qualificationExpiry i).outputs = s.outputs ∧ (s.qualificationExpiry i).counter = s.counter ∧
      (s.qualificationExpiry i).probes = s.probes := by
    obtain beside | beside := besideZones_qualificationExpiry s i <;>
      exact ⟨(congrArg State.stationTx beside :), (congrArg State.response beside :), (congrArg State.outputs beside :),
        (congrArg State.counter beside :), (congrArg State.probes beside :)⟩
  obtain ⟨station, response, outputs, counter, probes⟩ := shape
  obtain ⟨calm, works⟩ := quiet_taken quiet station response
  simp only [State.works, State.clockwork, Prod.mk.injEq] at works
  obtain ⟨outputs', counter', inputs', probes', _⟩ := works
  have record (j : Fin 4) : (s.takeQualification i).wetInput j = (s.qualificationExpiry i).wetInput j :=
    congrArg (fun ws : Vector WetInput 4 => ws[j]) inputs'
  refine ⟨calm, outputs'.trans outputs, counter'.trans counter, probes'.trans probes, ?_, fun j other => ?_⟩
  · rw [record, own]
  · rw [record, State.wetInput, inputs]
    exact State.setWetInput_wetInput_other s _ other

/-- One due qualification, with what it makes due in the zones. -/
theorem inputStage_taken {s : State} (quiet : s.Quiet) (i : Fin 4) :
    let t := (s.takeQualification i).takeDueZones
    InputStage s t ∧ (t.wetInput i).deadline = none ∧ ∀ j, j ≠ i → t.wetInput j = s.wetInput j := by
  obtain ⟨taken, outputs, counter, probes, own, others⟩ := takeQualification_stage quiet i
  obtain ⟨only, calm⟩ := onlyZones_takeDueZones taken
  have record (j : Fin 4) : (s.takeQualification i).takeDueZones.wetInput j = (s.takeQualification i).wetInput j :=
    congrArg (fun ws : Vector WetInput 4 => ws[j]) only.inputs
  refine ⟨⟨only.quiet, only.outputs.trans outputs, only.counter.trans counter, only.probes.trans probes, calm⟩, ?_,
    fun j other => (record j).trans (others j other)⟩
  rw [record, own]

theorem inputStage_turn {s u : State} (h : InputStage s u) (i : Fin 4) :
    let t := u.takeIfDue (fun v => deadlineDue (v.wetInput i).deadline) fun v => (State.takeQualification i v).takeDueZones
    InputStage s t ∧ deadlineDue (t.wetInput i).deadline = false ∧ ∀ j, j ≠ i → t.wetInput j = u.wetInput j := by
  obtain ⟨_, e⟩ | ⟨notDue, e⟩ := u.takeIfDue_cases (fun v => deadlineDue (v.wetInput i).deadline)
    fun v => (State.takeQualification i v).takeDueZones
  · obtain ⟨⟨quiet, outputs, counter, probes, calm⟩, own, others⟩ := inputStage_taken h.quiet i
    rw [e]
    exact ⟨⟨quiet, outputs.trans h.outputs, counter.trans h.counter, probes.trans h.probes, calm⟩, by rw [own]; rfl, others⟩
  · rw [e]
    exact ⟨h, notDue, fun _ _ => rfl⟩

theorem inputStage_takeDueInputs {s : State} (quiet : s.Quiet) (calm : ∀ z, zoneCalm s z) :
    InputStage s s.takeDueInputs ∧ ∀ i, deadlineDue (s.takeDueInputs.wetInput i).deadline = false := by
  obtain ⟨stage, taken⟩ := foldl_reaches (P := InputStage s) (Q := fun i u => deadlineDue (u.wetInput i).deadline = false)
    (fun _ i hu => (inputStage_turn hu i).1)
    (fun u i j hu hj => by
      obtain ⟨_, own, others⟩ := inputStage_turn hu i
      by_cases same : j = i
      · rw [same]
        exact own
      · rw [others j same]
        exact hj)
    (fun _ i hu => (inputStage_turn hu i).2.1) allUnits s ⟨quiet, rfl, rfl, rfl, calm⟩
  exact ⟨stage, fun i => taken i (.inl (List.mem_finRange i))⟩

theorem takeDueInputs_calm {s : State} (h : ∀ i, deadlineDue (s.wetInput i).deadline = false) : s.takeDueInputs = s :=
  List.foldl_fixed' (fun i => takeIfDue_of_not (fun u => (u.wetInput i).deadline) (h i) _) _

/-! ## The due silences -/

/-- From `s` to `t` nothing moves but the zones, which are calm, and the probes' runtime parts. -/
structure ProbeStage (s t : State) : Prop where
  quiet : t.Quiet
  outputs : t.outputs = s.outputs
  counter : t.counter = s.counter
  inputs : t.wetInputs = s.wetInputs
  keys : addresses t.probes = addresses s.probes
  calm : ∀ z, zoneCalm t z

/-- The silence deadline of an address is that of an entry in the table. -/
theorem silenceDeadline_congr {s t : State} (h : t.probes = s.probes) (a : Byte) :
    t.silenceDeadline a = s.silenceDeadline a := by
  simp only [State.silenceDeadline, State.findProbe, h]

theorem takeSilence_stage {s : State} (quiet : s.Quiet) (a : Byte) :
    let t := s.takeSilence a
    t.Quiet ∧ t.outputs = s.outputs ∧ t.counter = s.counter ∧ t.wetInputs = s.wetInputs ∧
      addresses t.probes = addresses s.probes ∧ t.silenceDeadline a = none ∧
      ∀ b, b ≠ a → t.silenceDeadline b = s.silenceDeadline b := by
  cases present : s.findProbe a with
  | none =>
    have same : s.takeSilence a = s := by simp only [State.takeSilence, present]
    rw [same]
    exact ⟨quiet, rfl, rfl, rfl, rfl, by simp [State.silenceDeadline, present], fun _ _ => rfl⟩
  | some e =>
    have taken : s.takeSilence a = (s.silenceExpiry e).arbitrate := by simp only [State.takeSilence, present]
    have key := findProbe_address present
    have beside := besideZones_silenceExpiry s e
    have station : (s.silenceExpiry e).stationTx = s.stationTx := (congrArg State.stationTx beside :)
    have response : (s.silenceExpiry e).response = s.response := (congrArg State.response beside :)
    obtain ⟨calm, works⟩ := quiet_taken quiet station response
    simp only [State.works, State.clockwork, Prod.mk.injEq] at works
    obtain ⟨outputs, counter, inputs, probes, _⟩ := works
    rw [taken]
    refine ⟨calm, outputs.trans (congrArg State.outputs beside :), counter.trans (congrArg State.counter beside :),
      inputs.trans (congrArg State.wetInputs beside :), ?_, ?_, fun b other => ?_⟩
    · rw [probes, silenceExpiry_probes, addresses_replaceProbe]
    · rw [silenceDeadline_congr probes, silenceExpiry_own present]
    · have written := findProbe_replaceProbe s { e with state := .stale, silence := none } b
      have elsewhere : ¬ b = e.load.address := fun same => other (same.trans key)
      have table : (s.silenceExpiry e).probes =
          (s.setProbes (replaceProbe { e with state := .stale, silence := none } s.probes)).probes := silenceExpiry_probes s e
      rw [silenceDeadline_congr probes, silenceDeadline_congr table]
      simp only [State.silenceDeadline, written, if_neg elsewhere]

theorem probeStage_taken {s : State} (quiet : s.Quiet) (a : Byte) :
    let t := (s.takeSilence a).takeDueZones
    ProbeStage s t ∧ t.silenceDeadline a = none ∧ ∀ b, b ≠ a → t.silenceDeadline b = s.silenceDeadline b := by
  obtain ⟨taken, outputs, counter, inputs, keys, own, others⟩ := takeSilence_stage quiet a
  obtain ⟨only, calm⟩ := onlyZones_takeDueZones taken
  have record := silenceDeadline_congr only.probes
  exact ⟨⟨only.quiet, only.outputs.trans outputs, only.counter.trans counter, only.inputs.trans inputs,
    (congrArg addresses only.probes).trans keys, calm⟩, (record a).trans own, fun b other => (record b).trans (others b other)⟩

theorem probeStage_turn {s u : State} (h : ProbeStage s u) (a : Byte) :
    let t := u.takeIfDue (fun v => deadlineDue (v.silenceDeadline a)) fun v => (State.takeSilence a v).takeDueZones
    ProbeStage s t ∧ deadlineDue (t.silenceDeadline a) = false ∧ ∀ b, b ≠ a → t.silenceDeadline b = u.silenceDeadline b := by
  obtain ⟨_, e⟩ | ⟨notDue, e⟩ := u.takeIfDue_cases (fun v => deadlineDue (v.silenceDeadline a))
    fun v => (State.takeSilence a v).takeDueZones
  · obtain ⟨⟨quiet, outputs, counter, inputs, keys, calm⟩, own, others⟩ := probeStage_taken h.quiet a
    rw [e]
    exact ⟨⟨quiet, outputs.trans h.outputs, counter.trans h.counter, inputs.trans h.inputs, keys.trans h.keys, calm⟩,
      by rw [own]; rfl, others⟩
  · rw [e]
    exact ⟨h, notDue, fun _ _ => rfl⟩

theorem probeStage_takeDueProbes {s : State} (quiet : s.Quiet) (calm : ∀ z, zoneCalm s z) :
    ProbeStage s s.takeDueProbes ∧ ∀ a, deadlineDue (s.takeDueProbes.silenceDeadline a) = false := by
  obtain ⟨stage, taken⟩ := foldl_reaches (P := ProbeStage s) (Q := fun a u => deadlineDue (u.silenceDeadline a) = false)
    (fun _ a hu => (probeStage_turn hu a).1)
    (fun u a b hu hb => by
      obtain ⟨_, own, others⟩ := probeStage_turn hu a
      by_cases same : b = a
      · rw [same]
        exact own
      · rw [others b same]
        exact hb)
    (fun _ a hu => (probeStage_turn hu a).2.1) (addresses s.probes) s ⟨quiet, rfl, rfl, rfl, rfl, calm⟩
  refine ⟨stage, fun a => taken a ?_⟩
  by_cases listed : a ∈ addresses s.probes
  · exact .inl listed
  · right
    simp [State.silenceDeadline, (findProbe_eq_none_iff s a).mpr listed, deadlineDue]

theorem takeDueProbes_calm {s : State} (h : ∀ a, deadlineDue (s.silenceDeadline a) = false) : s.takeDueProbes = s :=
  List.foldl_fixed' (fun a => takeIfDue_of_not (fun u => u.silenceDeadline a) (h a) _) _

/-! ## Nothing due -/

/-- Nothing is due, said of the silence deadlines by address. -/
def State.NothingDueByAddress (s : State) : Prop :=
  (∀ z, zoneCalm s z) ∧ (∀ i, deadlineDue (s.wetInput i).deadline = false) ∧ ∀ a, deadlineDue (s.silenceDeadline a) = false

theorem nothingDueByAddress_of_nothingDue {s : State} (h : nothingDue s) : s.NothingDueByAddress := by
  obtain ⟨zones, inputs, probes⟩ := h
  refine ⟨zones, inputs, fun a => ?_⟩
  cases present : s.findProbe a with
  | none => simp [State.silenceDeadline, present, deadlineDue]
  | some e => simpa [State.silenceDeadline, present] using probes e (List.mem_of_find?_eq_some present)

theorem State.NothingDueByAddress.nothingDue {s : State} (h : s.NothingDueByAddress) (law : s.ProbeTableLawful) :
    nothingDue s := by
  obtain ⟨zones, inputs, probes⟩ := h
  refine ⟨zones, inputs, fun e member => ?_⟩
  rw [← silenceDeadline_of_mem law member]
  exact probes _

theorem settled_iff (s : State) : s.settled = true ↔ nothingDue s := by
  simp only [State.settled, Bool.and_eq_true, all_toList]
  simp only [List.all_eq_true, Bool.not_eq_true']
  constructor
  · rintro ⟨⟨inputs, probes⟩, zones⟩
    exact ⟨fun z => ⟨(zones z).1.1, (zones z).1.2, (zones z).2⟩, inputs, probes⟩
  · rintro ⟨zones, inputs, probes⟩
    exact ⟨⟨inputs, probes⟩, fun z => ⟨⟨(zones z).1, (zones z).2.1⟩, (zones z).2.2⟩⟩

theorem settle_of_nothingDue {s : State} (h : nothingDue s) : s.settle = s := if_pos ((settled_iff s).mpr h)

/-- With nothing due there is nothing to take, so that settling is taking what is due. -/
theorem settle_eq_takeDue (s : State) : s.settle = s.takeDue := by
  by_cases settled : s.settled = true
  · have none := (settled_iff s).mp settled
    obtain ⟨zones, inputs, probes⟩ := nothingDueByAddress_of_nothingDue none
    rw [settle_of_nothingDue none, takeDue_stages, takeDueZones_calm zones, takeDueInputs_calm inputs,
      takeDueProbes_calm probes]
  · exact if_neg settled

/-- What settling a quiet part leaves: nothing due, and the counter and the outputs as they were. -/
theorem settle_quiet {s : State} (quiet : s.Quiet) :
    s.settle.Quiet ∧ s.settle.outputs = s.outputs ∧ s.settle.counter = s.counter ∧ s.settle.NothingDueByAddress := by
  rw [settle_eq_takeDue, takeDue_stages]
  obtain ⟨zones, zonesCalm⟩ := onlyZones_takeDueZones quiet
  obtain ⟨inputs, inputsCalm⟩ := inputStage_takeDueInputs zones.quiet zonesCalm
  obtain ⟨probes, probesCalm⟩ := probeStage_takeDueProbes inputs.quiet inputs.calm
  refine ⟨probes.quiet, probes.outputs.trans (inputs.outputs.trans zones.outputs),
    probes.counter.trans (inputs.counter.trans zones.counter), probes.calm, fun i => ?_, probesCalm⟩
  rw [State.wetInput, probes.inputs]
  exact inputsCalm i

/-- Nothing is left due in a lawful part that leaves no frame idle. -/
theorem nothingDue_settle {s : State} (quiet : s.Quiet) (law : s.ProbeTableLawful) : nothingDue s.settle :=
  (settle_quiet quiet).2.2.2.nothingDue (probeTable_tableLaw.eventLaw.toSettleLaw.settle s law)

/-! ## An expiry that is next is taken first -/

/-- Two runs of a fold over an ordered list agree when nothing before `a` moves either and `a` brings them together. -/
theorem foldl_once {α : Type} {R : α → α → Prop} {f : State → α → State} {s t : State} {a : α} {l : List α}
    (order : l.Pairwise R) (member : a ∈ l) (before : ∀ b ∈ l, R b a → f s b = s ∧ f t b = t) (same : f s a = f t a) :
    l.foldl f s = l.foldl f t := by
  induction l with
  | nil => cases member
  | cons b l ih =>
    obtain ⟨first, order⟩ := List.pairwise_cons.mp order
    obtain rfl | later := List.mem_cons.mp member
    · rw [List.foldl_cons, List.foldl_cons, same]
    · obtain ⟨left, right⟩ := before b List.mem_cons_self (first a later)
      rw [List.foldl_cons, List.foldl_cons, left, right]
      exact ih order later fun c listed => before c (List.mem_cons_of_mem _ listed)

theorem finRange_once {n : Nat} {f : State → Fin n → State} {s t : State} (k : Fin n)
    (before : ∀ j < k, f s j = s ∧ f t j = t) (same : f s k = f t k) :
    (List.finRange n).foldl f s = (List.finRange n).foldl f t :=
  foldl_once (List.pairwise_lt_finRange n) (List.mem_finRange k) (fun j _ => before j) same

/-- Two parts that differ in zone `z` alone settle alike when what is due in `z` brings them together. -/
theorem settle_of_zone {s t : State} {z : Fin 24} (only : OnlyZone z s t) (before : ∀ y < z, zoneCalm s y)
    (same : s.takeDueZone z = t.takeDueZone z) : s.settle = t.settle := by
  have zones : s.takeDueZones = t.takeDueZones := finRange_once z (fun y less =>
    ⟨takeDueZone_calm (before y less), takeDueZone_calm (zoneCalm_of_zone (only.others y (ne_of_lt less)) (before y less))⟩)
    same
  rw [settle_eq_takeDue, settle_eq_takeDue, takeDue_stages, takeDue_stages, zones]

section Next

variable {s : State} (quiet : s.Quiet)
include quiet

theorem settle_takeSlot {z : Fin 24} {k : Fin 8} (due : deadlineDue (s.slotDeadline z k) = true)
    (before : ∀ y < z, zoneCalm s y) (slots : ∀ j < k, deadlineDue (s.slotDeadline z j) = false) :
    s.settle = (s.takeSlot z k).settle := by
  refine settle_of_zone (onlyZone_takeSlot quiet z k).1 before ?_
  have aired : s.takeDueSlots z = (s.takeSlot z k).takeDueSlots z := by
    refine finRange_once k (fun j less => ⟨takeIfDue_of_not (fun u => u.slotDeadline z j) (slots j less) _,
      takeIfDue_of_not (fun u => u.slotDeadline z j) ?_ _⟩) ?_
    · simpa [takeSlot_slotDeadline quiet, ne_of_lt less] using slots j less
    · rw [takeIfDue_of_due (fun u => u.slotDeadline z k) due, takeIfDue_of_not (fun u => u.slotDeadline z k)]
      simp [takeSlot_slotDeadline quiet, deadlineDue]
  rw [takeDueZone_eq, takeDueZone_eq, aired]

theorem settle_takePersistence {z : Fin 24} (due : deadlineDue (s.persistenceDeadline z) = true)
    (before : ∀ y < z, zoneCalm s y) (slots : slotsCalm s z) : s.settle = (s.takePersistence z).settle := by
  obtain ⟨only, disarmed, kept⟩ := onlyZone_takePersistence quiet z
  refine settle_of_zone only before ?_
  have calm : slotsCalm (s.takePersistence z) z := fun k => by rw [slotDeadline_congr kept]; exact slots k
  rw [takeDueZone_eq, takeDueZone_eq, takeDueSlots_calm slots, takeDueSlots_calm calm, State.takeDueState, State.takeDueState,
    takeIfDue_of_due (fun u => u.persistenceDeadline z) due,
    takeIfDue_of_not (s := s.takePersistence z) (fun u => u.persistenceDeadline z) (by rw [disarmed]; rfl)]

theorem settle_takeBlind {z : Fin 24} (due : deadlineDue (s.zone z).blind = true) (before : ∀ y < z, zoneCalm s y)
    (slots : slotsCalm s z) (persistence : deadlineDue (s.persistenceDeadline z) = false) :
    s.settle = (s.takeBlind z).settle := by
  obtain ⟨only, disarmed, awake, kept⟩ := onlyZone_takeBlind quiet z
  refine settle_of_zone only before ?_
  have calm : zoneCalm (s.takeBlind z) z :=
    ⟨fun k => by rw [slotDeadline_congr kept]; exact slots k, by rw [disarmed]; rfl, by rw [awake]; rfl⟩
  rw [takeDueZone_calm calm, takeDueZone_eq, takeDueSlots_calm slots, State.takeDueState,
    takeIfDue_of_not (fun u => u.persistenceDeadline z) persistence, takeIfDue_of_due (fun u => (u.zone z).blind) due]

theorem settle_takeQualification {i : Fin 4} (due : deadlineDue (s.wetInput i).deadline = true)
    (zones : ∀ z, zoneCalm s z) (before : ∀ j < i, deadlineDue (s.wetInput j).deadline = false) :
    s.settle = (s.takeQualification i).settle := by
  obtain ⟨_, own, others⟩ := inputStage_taken quiet i
  rw [settle_eq_takeDue, settle_eq_takeDue, takeDue_stages, takeDue_stages, takeDueZones_calm zones]
  have inputs : s.takeDueInputs = (s.takeQualification i).takeDueZones.takeDueInputs := by
    refine finRange_once i (fun j less => ⟨takeIfDue_of_not (fun u => (u.wetInput j).deadline) (before j less) _,
      takeIfDue_of_not (fun u => (u.wetInput j).deadline) ?_ _⟩) ?_
    · rw [others j (ne_of_lt less)]
      exact before j less
    · rw [takeIfDue_of_due (fun u => (u.wetInput i).deadline) due, takeIfDue_of_not (fun u => (u.wetInput i).deadline)]
      rw [own]
      rfl
  rw [inputs]

theorem settle_takeSilence (law : s.ProbeTableLawful) {a : Byte} (due : deadlineDue (s.silenceDeadline a) = true)
    (zones : ∀ z, zoneCalm s z) (inputs : ∀ i, deadlineDue (s.wetInput i).deadline = false)
    (before : ∀ b, b.toNat < a.toNat → deadlineDue (s.silenceDeadline b) = false) :
    s.settle = (s.takeSilence a).settle := by
  obtain ⟨stage, own, others⟩ := probeStage_taken quiet a
  have still : (s.takeSilence a).takeDueZones.takeDueInputs = (s.takeSilence a).takeDueZones :=
    takeDueInputs_calm fun i => by rw [State.wetInput, stage.inputs]; exact inputs i
  have listed : a ∈ addresses s.probes := by
    by_contra absent
    simp [State.silenceDeadline, (findProbe_eq_none_iff s a).mpr absent, deadlineDue] at due
  obtain ⟨_, order, _⟩ := (probeTableLawful_iff s).mp law
  have ascending : (addresses s.probes).Pairwise fun b c => b.toNat < c.toNat := List.pairwise_map.mpr order
  rw [settle_eq_takeDue, settle_eq_takeDue, takeDue_stages, takeDue_stages, takeDueZones_calm zones,
    takeDueInputs_calm inputs, still]
  unfold State.takeDueProbes
  rw [stage.keys]
  refine foldl_once ascending listed (fun b _ less => ⟨takeIfDue_of_not (fun u => u.silenceDeadline b) (before b less) _,
    takeIfDue_of_not (fun u => u.silenceDeadline b) ?_ _⟩) ?_
  · rw [others b fun same => absurd less (by rw [same]; exact Nat.lt_irrefl _)]
    exact before b less
  · rw [takeIfDue_of_due (fun u => u.silenceDeadline a) due, takeIfDue_of_not (fun u => u.silenceDeadline a)]
    rw [own]
    rfl

end Next

/-- Settles O6: settling is a fold over the places of the deadlines, an expiry that is next is the first the fold takes and
leaves its own deadline disarmed, and every operation leaves a deadline as it was or arms it afresh. -/
theorem nothingStaysDue : Obligations.NothingStaysDue := by
  unfold Obligations.NothingStaysDue
  refine ⟨fun s => ⟨settled_iff s, settle_of_nothingDue⟩, fun s idle law => ?_,
    fun s t _ table zones outputs onTime e => deadlinesOnTime_step table zones outputs onTime e⟩
  have quiet := idle.quiet
  refine ⟨nothingDue_settle quiet law, fun z k due before slots => settle_takeSlot quiet due before slots,
    fun z p armed due watch before slots => ?_, fun z due level before slots persistence => ?_,
    fun i due turning zones before => ?_, fun a e present due zones inputs before => ?_⟩
  · rw [← takePersistence_eq armed watch]
    exact settle_takePersistence quiet (by rw [State.persistenceDeadline, armed]; exact due) before slots
  · rw [← takeBlind_eq level]
    exact settle_takeBlind quiet due before slots persistence
  · rw [← takeQualification_eq turning]
    exact settle_takeQualification quiet due zones before
  · rw [← takeSilence_eq present]
    refine settle_takeSilence quiet law (by rw [State.silenceDeadline, present]; exact due) zones inputs fun b less => ?_
    cases found : s.findProbe b with
    | none => simp [State.silenceDeadline, found, deadlineDue]
    | some x =>
      have key := findProbe_address found
      simpa [State.silenceDeadline, found] using before x (List.mem_of_find?_eq_some found) (by rw [key]; exact less)

end Sys2Proof.Machine

/-! SUPPORT. The deadlines of the part as places, and an expiry that is the only one its count reached. -/

namespace Sys2Proof.Machine

open Sys2Proof Slice0

/-! ## Places of deadlines -/

/-- The deadlines of a zone record. -/
inductive ZonePlace where
  | slot (k : Fin 8)
  | trend
  | persistence
  | blind

/-- The deadlines of the part, output boundaries apart. -/
inductive Place where
  | input (i : Fin 4)
  | probe (a : Byte)
  | zone (z : Fin 24) (x : ZonePlace)

def ZonePlace.deadline : ZonePlace → Zone → Deadline
  | .slot k, z => (z.slot k).expiry
  | .trend, z => z.trendDeadline
  | .persistence, z => z.persistence.map Persistence.arming
  | .blind, z => z.blind

def Place.deadline : Place → State → Deadline
  | .input i, s => (s.wetInput i).deadline
  | .probe a, s => s.silenceDeadline a
  | .zone z x, s => x.deadline (s.zone z)

/-- Whether the deadline is armed again from its own time (R28). -/
def Place.periodic : Place → Bool
  | .zone _ .trend => true
  | _ => false

/-- The expiry of the deadline, whole. -/
def Place.take : Place → State → State
  | .input i => State.takeQualification i
  | .probe a => State.takeSilence a
  | .zone z (.slot k) => State.takeSlot z k
  | .zone z .trend => State.takeTrend z
  | .zone z .persistence => State.takePersistence z
  | .zone z .blind => State.takeBlind z

/-- The turn of the deadline at the end of a count (R27). -/
def Place.turn (p : Place) (s : State) : State := s.takeIfReached p.deadline p.take

theorem Zone.Rearmed.place {now : Stamp} {r y : Zone} (h : Zone.Rearmed now r y) (z : Fin 24) (x : ZonePlace) :
    Rearm now (Place.zone z x).periodic (x.deadline r) (x.deadline y) := by
  cases x with
  | slot k => exact h.slot k
  | trend => exact h.trend
  | persistence => exact h.persistence
  | blind => exact h.blind

theorem State.Rearmed.place {s t : State} (h : s.Rearmed t) (p : Place) :
    Rearm s.counter p.periodic (p.deadline s) (p.deadline t) := by
  cases p with
  | input i => exact h.input i
  | probe a => exact h.probe a
  | zone z x => exact (h.zone z).place z x

/-- From `s` to `t` every deadline but that of `p` was left or made fresh; the counter stood. -/
structure RearmedBut (p : Place) (s t : State) : Prop where
  counter : t.counter = s.counter
  place : ∀ q, q ≠ p → Rearm s.counter q.periodic (q.deadline s) (q.deadline t)

theorem State.Rearmed.but {s t : State} (h : s.Rearmed t) (p : Place) : RearmedBut p s t := ⟨h.counter, fun q _ => h.place q⟩

theorem RearmedBut.trans {p : Place} {s t u : State} (h : RearmedBut p s t) (k : RearmedBut p t u) : RearmedBut p s u := by
  obtain ⟨counter, place⟩ := k
  rw [h.counter] at counter place
  exact ⟨counter, fun q other => (h.place q other).trans (place q other)⟩

/-- No deadline but that of `p` is reached. -/
def State.AheadBut (p : Place) (s : State) : Prop := ∀ q, q ≠ p → ahead s (q.deadline s)

/-- No deadline is reached, output boundaries apart. -/
def State.AllAhead (s : State) : Prop := ∀ q : Place, ahead s (q.deadline s)

theorem Rearm.ahead {now : Stamp} {periodic : Bool} {d e : Deadline} (h : Rearm now periodic d e)
    (unreached : deadlineExpired d now = false) (notDue : periodic = false → deadlineDue e = false) :
    deadlineExpired e now = false := by
  obtain rfl | fresh := h
  · exact unreached
  · refine fresh.ahead ?_
    cases periodic with
    | false => exact notDue rfl
    | true =>
      cases e with
      | none => rfl
      | some a => exact ((fresh a rfl).resolve_left fun ⟨_, absurd⟩ => Bool.noConfusion absurd).1

theorem place_not_due {s : State} (h : s.NothingDueByAddress) (p : Place) (once : p.periodic = false) :
    deadlineDue (p.deadline s) = false := by
  obtain ⟨zones, inputs, probes⟩ := h
  match p with
  | .input i => exact inputs i
  | .probe a => exact probes a
  | .zone z (.slot k) => exact (zones z).1 k
  | .zone z .persistence => exact (zones z).2.1
  | .zone z .blind => exact (zones z).2.2
  | .zone z .trend => cases once

/-- Deadlines ahead stay ahead through what rearms them, once nothing is due. -/
theorem RearmedBut.ahead {p : Place} {s t : State} (h : RearmedBut p s t) (k : s.AheadBut p) (calm : t.NothingDueByAddress) :
    t.AheadBut p := fun q other => by
  have unreached := k q other
  show deadlineExpired _ _ = false
  rw [h.counter]
  exact (h.place q other).ahead unreached (place_not_due calm q)

/-! ## An expiry of a quiet part -/

section Takes

variable {s : State} (quiet : s.Quiet)
include quiet

/-- An operation with the arbiter's choice, the transmitter, the slot and the outputs left alone. -/
theorem rearmed_taken {t : State} (station : t.stationTx = s.stationTx) (response : t.response = s.response)
    (outputs : t.outputs = s.outputs) :
    t.arbitrate.Quiet ∧ t.arbitrate.outputs = s.outputs ∧ t.Rearmed t.arbitrate := by
  obtain ⟨calm, works⟩ := quiet_taken quiet station response
  exact ⟨calm, (congrArg Prod.fst works).trans outputs, .of_same (congrArg Prod.snd works)⟩

/-- The same of an operation on the zones alone. -/
theorem rearmed_takenZones {t : State} (beside : t.besideZones = s.besideZones) :
    t.arbitrate.Quiet ∧ t.arbitrate.outputs = s.outputs ∧ t.Rearmed t.arbitrate :=
  rearmed_taken (t := t) quiet (congrArg State.stationTx beside :) (congrArg State.response beside :)
    (congrArg State.outputs beside :)

/-- An expiry of a deadline that is not periodic leaves each deadline or makes it fresh. -/
theorem take_rearmed (p : Place) (once : p.periodic = false) :
    (p.take s).Quiet ∧ (p.take s).outputs = s.outputs ∧ s.Rearmed (p.take s) := by
  match p with
  | .input i =>
    have shape : (s.qualificationExpiry i).stationTx = s.stationTx ∧ (s.qualificationExpiry i).response = s.response ∧
        (s.qualificationExpiry i).outputs = s.outputs := by
      obtain beside | beside := besideZones_qualificationExpiry s i <;>
        exact ⟨(congrArg State.stationTx beside :), (congrArg State.response beside :), (congrArg State.outputs beside :)⟩
    obtain ⟨station, response, outputs⟩ := shape
    obtain ⟨calm, driven, rearmed⟩ := rearmed_taken quiet station response outputs
    exact ⟨calm, driven, (rearmed_qualificationExpiry s i).trans rearmed⟩
  | .probe a =>
    cases present : s.findProbe a with
    | none =>
      have same : (Place.probe a).take s = s := by simp only [Place.take, State.takeSilence, present]
      rw [same]
      exact ⟨quiet, rfl, .refl⟩
    | some e =>
      have taken : (Place.probe a).take s = (s.silenceExpiry e).arbitrate := by
        simp only [Place.take, State.takeSilence, present]
      have beside := besideZones_silenceExpiry s e
      have station : (s.silenceExpiry e).stationTx = s.stationTx := (congrArg State.stationTx beside :)
      have response : (s.silenceExpiry e).response = s.response := (congrArg State.response beside :)
      obtain ⟨calm, driven, rearmed⟩ := rearmed_taken quiet station response (congrArg State.outputs beside :)
      rw [taken]
      exact ⟨calm, driven, (rearmed_silenceExpiry s e).trans rearmed⟩
  | .zone z (.slot k) =>
    obtain ⟨calm, driven, rearmed⟩ := rearmed_takenZones quiet (besideZones_slotExpiry s z k)
    exact ⟨calm, driven, (rearmed_slotExpiry s z k).trans rearmed⟩
  | .zone z .persistence =>
    have shape : s.Rearmed (s.persistenceExpiry z) ∧ (s.persistenceExpiry z).besideZones = s.besideZones := by
      unfold State.persistenceExpiry
      split
      · exact ⟨.refl, rfl⟩
      · exact ⟨rearmed_persistenceExpiry s z _, besideZones_applyDecision _ _ _⟩
    obtain ⟨left, beside⟩ := shape
    obtain ⟨calm, driven, rearmed⟩ := rearmed_takenZones quiet beside
    exact ⟨calm, driven, left.trans rearmed⟩
  | .zone z .blind =>
    obtain ⟨calm, driven, rearmed⟩ := rearmed_takenZones quiet (besideZones_blindExpiry s z)
    exact ⟨calm, driven, (rearmed_blindExpiry s z).trans rearmed⟩
  | .zone z .trend => cases once

omit quiet in
/-- A written zone record moves the deadlines it changes. -/
theorem deadline_setZone {s : State} {z : Fin 24} {r : Zone} {own : ZonePlace}
    (same : ∀ x, x ≠ own → x.deadline r = x.deadline (s.zone z)) (q : Place) (other : q ≠ .zone z own) :
    q.deadline (s.setZone z r) = q.deadline s := by
  cases q with
  | input i => rfl
  | probe a => rfl
  | zone y x =>
    by_cases at' : y = z
    · subst at'
      show x.deadline ((s.setZone y r).zone y) = _
      rw [State.setZone_zone_same]
      exact same x fun eq => other (by rw [eq])
    · show x.deadline ((s.setZone z r).zone y) = _
      rw [State.setZone_zone_other _ _ at']
      rfl

/-- A trend expiry arms its own deadline from its old time, wherever that lies (R28, R102). -/
theorem takeTrend_rearmedBut (z : Fin 24) :
    (s.takeTrend z).Quiet ∧ (s.takeTrend z).outputs = s.outputs ∧ RearmedBut (.zone z .trend) s (s.takeTrend z) := by
  unfold State.takeTrend
  split
  · exact ⟨quiet, rfl, State.Rearmed.refl.but _⟩
  · next a _ =>
    obtain ⟨calm, driven, rearmed⟩ := rearmed_takenZones quiet (besideZones_trendExpiry s z a)
    have stepped : RearmedBut (.zone z .trend) s (s.setZone z ((s.zone z).trendStep a)) :=
      ⟨rfl, fun q other => .inl (deadline_setZone (fun x own => by
        cases x with
        | trend => exact absurd rfl own
        | _ => rfl) q other)⟩
    have evaluated := rearmed_evaluate_zone (s.setZone z ((s.zone z).trendStep a)) z
    exact ⟨calm, driven, stepped.trans ((evaluated.trans rearmed).but _)⟩

theorem take_rearmedBut (p : Place) : (p.take s).Quiet ∧ (p.take s).outputs = s.outputs ∧ RearmedBut p s (p.take s) := by
  cases once : p.periodic with
  | false =>
    obtain ⟨calm, outputs, rearmed⟩ := take_rearmed quiet p once
    exact ⟨calm, outputs, rearmed.but p⟩
  | true =>
    match p, once with
    | .zone z .trend, _ => exact takeTrend_rearmedBut quiet z

omit quiet in
theorem quietRearmed_settleLaw (s : State) : SettleLaw fun u => u.Quiet ∧ s.Rearmed u := by
  have keep (p : Place) (once : p.periodic = false) {u : State} (h : u.Quiet ∧ s.Rearmed u) :
      (p.take u).Quiet ∧ s.Rearmed (p.take u) := by
    obtain ⟨calm, _, rearmed⟩ := take_rearmed h.1 p once
    exact ⟨calm, h.2.trans rearmed⟩
  exact
    { silence := fun h _ => keep (.probe _) rfl h
      slot := fun h _ => keep (.zone _ (.slot _)) rfl h
      persistence := fun h _ => keep (.zone _ .persistence) rfl h
      blind := fun h _ => keep (.zone _ .blind) rfl h
      qualification := fun h _ => keep (.input _) rfl h }

theorem settle_rearmed : s.Rearmed s.settle := ((quietRearmed_settleLaw s).settle s ⟨quiet, .refl⟩).2

/-- The whole turn of a deadline moves no output, and leaves the other deadlines ahead. -/
theorem taken_settle (p : Place) (alone : s.AheadBut p) :
    (p.take s).settle.outputs = s.outputs ∧ (p.take s).settle.counter = s.counter ∧ (p.take s).settle.AheadBut p := by
  obtain ⟨calm, outputs, rearmed⟩ := take_rearmedBut quiet p
  obtain ⟨_, kept, counter, none⟩ := settle_quiet calm
  have whole := rearmed.trans ((settle_rearmed calm).but p)
  exact ⟨kept.trans outputs, counter.trans rearmed.counter, whole.ahead alone none⟩

end Takes

end Sys2Proof.Machine

/-! SUPPORT. The end of a count as a list of turns, and what a TICK does with the one expiry that is left: O7. -/

namespace Sys2Proof.Machine

open Sys2Proof Slice0

/-! ## The turns of a count, output boundaries apart -/

/-- The deadlines of a zone in the order of their turns. -/
def zonePlaces (z : Fin 24) : List Place :=
  (allSlots.map ZonePlace.slot ++ [ZonePlace.trend, ZonePlace.persistence, ZonePlace.blind]).map (Place.zone z)

/-- The deadlines of the part in the order of their turns; the addresses are those the inputs' turns leave. -/
def State.places (s : State) : List Place :=
  allUnits.map Place.input ++ ((addresses s.inputsTurn.probes).map Place.probe ++ allZones.flatMap zonePlaces)

theorem turn_input (i : Fin 4) (s : State) :
    (Place.input i).turn s = s.takeIfReached (fun u => (u.wetInput i).deadline) (State.takeQualification i) := rfl

theorem turn_probe (a : Byte) (s : State) :
    (Place.probe a).turn s = s.takeIfReached (fun u => u.silenceDeadline a) (State.takeSilence a) := rfl

theorem turn_slot (z : Fin 24) (k : Fin 8) (s : State) :
    (Place.zone z (.slot k)).turn s = s.takeIfReached (fun u => u.slotDeadline z k) (State.takeSlot z k) := rfl

theorem turn_trend (z : Fin 24) (s : State) :
    (Place.zone z .trend).turn s = s.takeIfReached (fun u => (u.zone z).trendDeadline) (State.takeTrend z) := rfl

theorem turn_persistence (z : Fin 24) (s : State) :
    (Place.zone z .persistence).turn s = s.takeIfReached (fun u => u.persistenceDeadline z) (State.takePersistence z) := rfl

theorem turn_blind (z : Fin 24) (s : State) :
    (Place.zone z .blind).turn s = s.takeIfReached (fun u => (u.zone z).blind) (State.takeBlind z) := rfl

theorem takeReachedZone_eq (s : State) (z : Fin 24) : s.takeReachedZone z = (zonePlaces z).foldl (fun t p => p.turn t) s := by
  simp only [zonePlaces, List.map_append, List.foldl_append, List.map_map, List.foldl_map, List.map_cons, List.map_nil,
    List.foldl_cons, List.foldl_nil, Function.comp_apply, turn_slot, turn_trend, turn_persistence, turn_blind,
    State.takeReachedZone]

theorem zonesTurn_eq (s : State) : s.zonesTurn = (allZones.flatMap zonePlaces).foldl (fun t p => p.turn t) s := by
  simp only [List.foldl_flatMap, State.zonesTurn, ← takeReachedZone_eq]

theorem beforeOutputs_eq (s : State) :
    s.inputsTurn.probesTurn.zonesTurn = s.places.foldl (fun t p => p.turn t) s := by
  simp only [zonesTurn_eq, State.places, List.foldl_append, List.foldl_map, turn_input, turn_probe]
  rfl

theorem nodup_zonePlaces (z : Fin 24) : (zonePlaces z).Nodup := by
  refine List.Nodup.map (fun x y same => (Place.zone.inj same).2) ?_
  refine List.nodup_append.mpr ⟨(List.nodup_finRange 8).map fun j k same => ZonePlace.slot.inj same, by simp, ?_⟩
  simp

theorem mem_zonePlaces {z : Fin 24} {p : Place} : p ∈ zonePlaces z ↔ ∃ x, p = .zone z x := by
  rw [zonePlaces, List.mem_map]
  constructor
  · rintro ⟨x, _, rfl⟩
    exact ⟨x, rfl⟩
  · rintro ⟨x, rfl⟩
    refine ⟨x, ?_, rfl⟩
    cases x <;> simp [allSlots]

theorem nodup_places {s : State} (law : s.inputsTurn.ProbeTableLawful) : s.places.Nodup := by
  obtain ⟨_, order, _⟩ := (probeTableLawful_iff s.inputsTurn).mp law
  have ascending : (addresses s.inputsTurn.probes).Pairwise fun b c => b.toNat < c.toNat := List.pairwise_map.mpr order
  have keys : (addresses s.inputsTurn.probes).Nodup := ascending.imp fun less same =>
    absurd less (by rw [same]; exact Nat.lt_irrefl _)
  have zones : (allZones.flatMap zonePlaces).Nodup := by
    refine List.nodup_flatMap.mpr ⟨fun z _ => nodup_zonePlaces z,
      (List.nodup_finRange 24).imp fun {y z} other p left right => ?_⟩
    obtain ⟨x, rfl⟩ := mem_zonePlaces.mp left
    obtain ⟨_, same⟩ := mem_zonePlaces.mp right
    exact other (Place.zone.inj same).1
  refine List.nodup_append.mpr ⟨(List.nodup_finRange 4).map fun i j same => Place.input.inj same, List.nodup_append.mpr
    ⟨keys.map fun a b same => Place.probe.inj same, zones, ?_⟩, ?_⟩
  · intro p left q right same
    obtain ⟨a, _, rfl⟩ := List.mem_map.mp left
    obtain ⟨z, _, listed⟩ := List.mem_flatMap.mp right
    obtain ⟨x, rfl⟩ := mem_zonePlaces.mp listed
    cases same
  · intro p left q right same
    obtain ⟨i, _, rfl⟩ := List.mem_map.mp left
    obtain listed | listed := List.mem_append.mp right
    · obtain ⟨a, _, rfl⟩ := List.mem_map.mp listed
      cases same
    · obtain ⟨z, _, listed⟩ := List.mem_flatMap.mp listed
      obtain ⟨x, rfl⟩ := mem_zonePlaces.mp listed
      cases same

/-! ## Idle turns -/

theorem turn_ahead {s : State} {p : Place} (h : ahead s (p.deadline s)) : p.turn s = s := if_neg (by simp [h])

theorem turn_reached {s : State} {p : Place} (h : deadlineExpired (p.deadline s) s.counter = true) :
    p.turn s = (p.take s).settle := if_pos h

/-- No output boundary is reached, and no duty is over. -/
def State.OutputsIdle (s : State) : Prop :=
  ∀ i, ahead s (s.output i).boundary ∧
    ((s.output i).enabled = true → (s.output i).driven = true → withinDuty (s.output i) s.counter = true)

theorem setOutput_self (s : State) (i : Fin 4) : s.setOutput i (s.output i) = s := by simp [State.setOutput, State.output]

theorem dutyEnd_running {s : State} {i : Fin 4}
    (h : (s.output i).enabled = true → (s.output i).driven = true → withinDuty (s.output i) s.counter = true) :
    s.dutyEnd i = s := by
  rw [State.dutyEnd, (endDuty_eq_self_iff _ _).mpr h, setOutput_self]

/-- The turn of an output whose period goes on ends its duty at most. -/
theorem outputTurn_ahead {s : State} {i : Fin 4} (h : ahead s (s.output i).boundary) : s.outputTurn i = s.dutyEnd i := by
  have idle : s.takeIfReached (fun u => (u.output i).boundary) (State.takeBoundary i) = s := if_neg (by simp [h])
  rw [State.outputTurn, idle]

theorem outputTurn_idle {s : State} {i : Fin 4} (h : ahead s (s.output i).boundary)
    (running : (s.output i).enabled = true → (s.output i).driven = true → withinDuty (s.output i) s.counter = true) :
    s.outputTurn i = s := by
  rw [outputTurn_ahead h, dutyEnd_running running]

theorem outputsTurn_idle {s : State} (h : s.OutputsIdle) : s.outputsTurn = s :=
  List.foldl_fixed' (fun i => outputTurn_idle (h i).1 (h i).2) _

theorem outputsIdle_congr {s t : State} (outputs : t.outputs = s.outputs) (counter : t.counter = s.counter)
    (h : s.OutputsIdle) : t.OutputsIdle := by
  simpa only [State.OutputsIdle, State.output, outputs, ahead, counter] using h

/-! ## The one expiry a count reached -/

/-- A fold in which one turn alone moves anything is that turn. -/
theorem foldl_single {α : Type} {f : State → α → State} {s w : State} {a : α} {l : List α} (nodup : l.Nodup) (member : a ∈ l)
    (before : ∀ b, b ≠ a → f s b = s) (after : ∀ b, b ≠ a → f w b = w) (taken : f s a = w) : l.foldl f s = w := by
  induction l with
  | nil => cases member
  | cons b l ih =>
    obtain ⟨fresh, nodup⟩ := List.nodup_cons.mp nodup
    rw [List.foldl_cons]
    by_cases own : b = a
    · subst own
      rw [taken]
      have idle : ∀ m : List α, b ∉ m → m.foldl f w = w := fun m absent => by
        induction m with
        | nil => rfl
        | cons c m ih =>
          obtain ⟨other, absent⟩ := not_or.mp (mt List.mem_cons.mpr absent)
          rw [List.foldl_cons, after c (Ne.symm other), ih absent]
      exact idle l fresh
    · rw [before b own]
      exact ih nodup ((List.mem_cons.mp member).resolve_left (Ne.symm own))

theorem inputsTurn_ahead {s : State} (h : ∀ i, ahead s (s.wetInput i).deadline) : s.inputsTurn = s :=
  List.foldl_fixed' (fun i => turn_ahead (p := .input i) (h i)) _

theorem takeReached_ahead {s : State} (h : s.AllAhead) : s.takeReached = s.outputsTurn := by
  have idle : s.places.foldl (fun t p => p.turn t) s = s := List.foldl_fixed' (fun p => turn_ahead (h p)) _
  rw [takeReached_stages, beforeOutputs_eq, idle]

/-- A reached deadline has its turn. -/
theorem mem_places {s : State} {p : Place} (expired : deadlineExpired (p.deadline s) s.counter = true) (alone : s.AheadBut p) :
    p ∈ s.places := by
  refine List.mem_append.mpr ?_
  cases p with
  | input i => exact .inl (List.mem_map_of_mem (List.mem_finRange i))
  | probe a =>
    right
    refine List.mem_append_left _ (List.mem_map_of_mem ?_)
    rw [inputsTurn_ahead fun i => alone (.input i) nofun]
    by_contra absent
    have none : s.silenceDeadline a = none := by simp [State.silenceDeadline, (findProbe_eq_none_iff s a).mpr absent]
    simp [Place.deadline, none, deadlineExpired] at expired
  | zone z x =>
    right
    exact List.mem_append_right _ (List.mem_flatMap.mpr ⟨z, List.mem_finRange z, mem_zonePlaces.mpr ⟨x, rfl⟩⟩)

theorem probeTableLawful_inputsTurn {s : State} (law : s.ProbeTableLawful) : s.inputsTurn.ProbeTableLawful :=
  have settle := probeTable_tableLaw.eventLaw.toSettleLaw
  foldl_keeps State.ProbeTableLawful (fun t _ => settle.takeIfReached (fun _ => settle.qualification) t) _ s law

/-- The end of a count that reached one deadline takes its expiry, and what that makes due at once. -/
theorem takeReached_place {s : State} {p : Place} (quiet : s.Quiet) (law : s.ProbeTableLawful)
    (expired : deadlineExpired (p.deadline s) s.counter = true) (alone : s.AheadBut p) (outputs : s.OutputsIdle) :
    s.takeReached = (p.take s).settle := by
  obtain ⟨driven, counter, later⟩ := taken_settle quiet p alone
  rw [takeReached_stages, beforeOutputs_eq, foldl_single (nodup_places (probeTableLawful_inputsTurn law))
    (mem_places expired alone) (fun q other => turn_ahead (alone q other)) (fun q other => turn_ahead (later q other))
    (turn_reached expired)]
  exact outputsTurn_idle (outputsIdle_congr driven counter outputs)

/-! ## Nothing reached but one place -/

theorem allAhead_of_reachesNothing {s : State} (h : reachesNothing s) : s.AllAhead ∧ s.OutputsIdle := by
  obtain ⟨inputs, probes, zones, outputs⟩ := h
  refine ⟨fun p => ?_, outputs⟩
  match p with
  | .input i => exact inputs i
  | .probe a =>
    show ahead s (s.silenceDeadline a)
    cases present : s.findProbe a with
    | none => simp [State.silenceDeadline, present, ahead, deadlineExpired]
    | some e => simpa [State.silenceDeadline, present] using probes e (List.mem_of_find?_eq_some present)
  | .zone z (.slot k) => exact (zones z).1 k
  | .zone z .trend => exact (zones z).2.1
  | .zone z .persistence => exact (zones z).2.2.1
  | .zone z .blind => exact (zones z).2.2.2

/-- A part whose count reached nothing ends it as it is, so that the end of a count is always the taking of what it reached. -/
theorem finishCount_eq (s : State) : s.finishCount = s.takeReached := by
  unfold State.finishCount
  split
  · next quiet =>
    obtain ⟨all, outputs⟩ := allAhead_of_reachesNothing ((nothingReached_iff s).mp quiet)
    rw [takeReached_ahead all, outputsTurn_idle outputs]
  · rfl

/-- Deadlines that stand as they do in a part that reached nothing are ahead. -/
theorem aheadBut_of_reachesNothing {s t : State} {p : Place} (h : reachesNothing t) (counter : t.counter = s.counter)
    (outputs : t.outputs = s.outputs) (same : ∀ q, q ≠ p → q.deadline t = q.deadline s) : s.AheadBut p ∧ s.OutputsIdle := by
  obtain ⟨all, idle⟩ := allAhead_of_reachesNothing h
  refine ⟨fun q other => ?_, outputsIdle_congr outputs.symm counter.symm idle⟩
  have unreached := all q
  rwa [same q other, ahead, counter] at unreached

theorem aheadBut_zone {s : State} {z : Fin 24} {r : Zone} {own : ZonePlace} (h : reachesNothing (s.setZone z r))
    (same : ∀ x, x ≠ own → x.deadline r = x.deadline (s.zone z)) : s.AheadBut (.zone z own) ∧ s.OutputsIdle :=
  aheadBut_of_reachesNothing h rfl rfl (deadline_setZone same)

theorem aheadBut_input {s : State} {i : Fin 4} {r : WetInput} (h : reachesNothing (s.setWetInput i r)) :
    s.AheadBut (.input i) ∧ s.OutputsIdle := by
  refine aheadBut_of_reachesNothing h rfl rfl fun q other => ?_
  cases q with
  | input j =>
    show ((s.setWetInput i r).wetInput j).deadline = _
    rw [State.setWetInput_wetInput_other _ _ fun eq => other (by rw [eq])]
    rfl
  | probe a => rfl
  | zone z x => rfl

theorem aheadBut_probe {s : State} {a : Byte} {e : ProbeEntry} (present : s.findProbe a = some e) {silence : Deadline}
    (h : reachesNothing { s with probes := rewritten s.probes { e with silence := silence } }) :
    s.AheadBut (.probe a) ∧ s.OutputsIdle := by
  refine aheadBut_of_reachesNothing h rfl rfl fun q other => ?_
  cases q with
  | input j => rfl
  | probe b =>
    have elsewhere : ¬ b = e.load.address := fun same => other (by rw [same, findProbe_address present])
    have written := findProbe_replaceProbe s { e with silence := silence } b
    rw [if_neg elsewhere] at written
    exact congrArg (fun found => found.bind ProbeEntry.silence) written
  | zone z x => rfl

/-! ## A TICK in the place of a row -/

/-- In a settled part the TICK that reaches one deadline does what the deadline's row does, and what that makes due. -/
theorem countsAfter_place {s : State} {p : Place} {c : Instr} (idle : s.NothingWaitsIdle) (law : s.ProbeTableLawful)
    (expires : s.expires s p.deadline) (row : exec c s = .next (p.take s)) (rest : s.AheadBut p ∧ s.OutputsIdle) :
    countsAfter c s := by
  refine ⟨p.take s, row, ?_⟩
  rw [exec_tick expires.1, State.tick, finishCount_eq, takeReached_place idle.quiet law expires.2 rest.1 rest.2]

theorem nothingDue_setOutput {s : State} (h : nothingDue s) (i : Fin 4) (o : Output) : nothingDue (s.setOutput i o) := h

/-- The turn of an output that alone has something to do. -/
theorem outputsTurn_single {s : State} {i : Fin 4} {o : Output} (taken : s.outputTurn i = s.setOutput i o)
    (others : ∀ j, j ≠ i → ahead s (s.output j).boundary ∧
      ((s.output j).enabled = true → (s.output j).driven = true → withinDuty (s.output j) s.counter = true)) :
    s.outputsTurn = s.setOutput i o := by
  refine foldl_single (List.nodup_finRange 4) (List.mem_finRange i)
    (fun j other => outputTurn_idle (others j other).1 (others j other).2) (fun j other => ?_) taken
  have same := State.setOutput_output_other s o other
  exact outputTurn_idle (by rw [same]; exact (others j other).1) (by rw [same]; exact (others j other).2)

/-- What stands beside one output in a part that otherwise reached nothing. -/
theorem aheadBut_output {s : State} {i : Fin 4} {r : Output} (h : reachesNothing (s.setOutput i r)) :
    s.AllAhead ∧ ∀ j, j ≠ i → ahead s (s.output j).boundary ∧
      ((s.output j).enabled = true → (s.output j).driven = true → withinDuty (s.output j) s.counter = true) := by
  obtain ⟨all, outputs⟩ := allAhead_of_reachesNothing h
  refine ⟨fun p => ?_, fun j other => ?_⟩
  · have unreached := all p
    cases p <;> exact unreached
  have running := outputs j
  rwa [State.setOutput_output_other _ _ other] at running

/-- In a settled part the TICK that finds one output to turn does what the output's row does. -/
theorem countsAfter_output {s : State} {i : Fin 4} {o : Output} {c : Instr} (none : nothingDue s) (low : s.resetLow = false)
    (row : exec c s = .next (s.setOutput i o)) (taken : s.outputTurn i = s.setOutput i o) {r : Output}
    (rest : reachesNothing (s.setOutput i r)) : countsAfter c s := by
  obtain ⟨all, others⟩ := aheadBut_output rest
  refine ⟨s.setOutput i o, row, ?_⟩
  rw [exec_tick ⟨low, settle_of_nothingDue none⟩, State.tick, finishCount_eq, takeReached_ahead all,
    outputsTurn_single taken others, settle_of_nothingDue (nothingDue_setOutput none i o)]

/-- A period that begins now is in its duty, unless that is empty. -/
theorem withinDuty_begun (s : State) (base : Stamp) (o : Output) (driven : (begun s base o).driven = true) :
    withinDuty (begun s base o) s.counter = true := by
  have pos : 0 < min (s.duty o).1 o.period := by simpa [begun] using driven
  exact decide_eq_true (.inl (by simpa [begun] using pos))

theorem takeBoundary_eq {s : State} {i : Fin 4} {a : Arming} (armed : (s.output i).boundary = some a) :
    s.takeBoundary i = s.setOutput i (begun s a.time (s.output i)) := by
  simp only [State.takeBoundary, armed, periodBoundary_eq]

/-- A reached boundary begins a period, whose duty is not over (R142). -/
theorem outputTurn_boundary {s : State} {i : Fin 4} {a : Arming} (none : nothingDue s)
    (armed : (s.output i).boundary = some a) (expired : deadlineExpired (s.output i).boundary s.counter = true) :
    s.outputTurn i = s.setOutput i (begun s a.time (s.output i)) := by
  have reached : s.takeIfReached (fun u => (u.output i).boundary) (State.takeBoundary i) = (s.takeBoundary i).settle :=
    if_pos expired
  rw [State.outputTurn, reached, takeBoundary_eq armed, settle_of_nothingDue (nothingDue_setOutput none i _)]
  refine dutyEnd_running fun _ => ?_
  rw [State.setOutput_output_same]
  exact withinDuty_begun s a.time _

theorem countsAfter_boundary {s : State} {i : Fin 4} {r : Output} (none : nothingDue s)
    (h : s.expires s fun t => (t.output i).boundary) (rest : reachesNothing (s.setOutput i r)) :
    countsAfter (.periodBoundary i) s := by
  obtain ⟨a, armed⟩ := Option.isSome_iff_exists.mp (isSome_of_expired h.2)
  refine countsAfter_output none h.1.1 ?_ (outputTurn_boundary none armed h.2) rest
  exact (expiryEvent_expires h (State.takeBoundary i)).trans (congrArg _ (takeBoundary_eq armed))

/-- A duty that is over ends with the count, the boundary still ahead (R144). -/
theorem countsAfter_dutyEnd {s : State} {i : Fin 4} (none : nothingDue s) (low : s.resetLow = false)
    (rest : reachesNothing (s.setOutput i { s.output i with driven := false })) : countsAfter (.dutyEnd i) s := by
  refine countsAfter_output none low (event_meets ⟨low, settle_of_nothingDue none⟩ fun t => t.dutyEnd i) ?_ rest
  have boundary := ((allAhead_of_reachesNothing rest).2 i).1
  rw [State.setOutput_output_same] at boundary
  exact outputTurn_ahead boundary

theorem expiryEvent_awaits {s : State} {d : State → Deadline} (h : awaits s d) (take : State → State) :
    expiryEvent s d take = .next s.settle := by
  obtain ⟨low, ahead⟩ := h
  exact expiryEvent_ahead low ahead take

/-- A slot expiry of a deadline that is not due at once is an expiry row like the others. -/
theorem exec_slotExpiry_settled {s : State} {z : Fin 24} {k : Fin 8} (none : nothingDue s)
    (h : s.expires s fun t => t.slotDeadline z k) : exec (.slotExpiry z k) s = .next (s.takeSlot z k) :=
  (execSlotExpiry_undue ((none.1 z).1 k)).trans (expiryEvent_expires h (State.takeSlot z k))

/-- Settles O7: a row of a deadline that is ahead meets its own test; and a count is a list of turns, of which all but the one
of the deadline it reached are idle, before that turn and after it. -/
theorem expiriesAwaitTheirDeadline : Obligations.ExpiriesAwaitTheirDeadline := by
  unfold Obligations.ExpiriesAwaitTheirDeadline
  intro s
  refine ⟨fun a h => expiryEvent_awaits h (State.takeSilence a),
    fun z k undue h => (execSlotExpiry_undue undue).trans (expiryEvent_awaits h (State.takeSlot z k)),
    fun z h => expiryEvent_awaits h (State.takeTrend z),
    fun z h => expiryEvent_awaits h (State.takePersistence z),
    fun z h => expiryEvent_awaits h (State.takeBlind z),
    fun i h => expiryEvent_awaits h (State.takeQualification i),
    fun i h => expiryEvent_awaits h (State.takeBoundary i), fun i t meets still => ?_,
    fun settled idle law => ?_⟩
  · refine (event_meets meets fun u => u.dutyEnd i).trans (congrArg _ (dutyEnd_running fun on driven => ?_))
    obtain off | ended | within := still
    · simp [off] at on
    · simp [ended] at driven
    · exact within
  have none := (settled_iff s).mp settled
  refine ⟨fun a e h present rest => ?_, fun z k h rest => ?_, fun z h rest => ?_, fun z h rest => ?_, fun z h rest => ?_,
    fun i h rest => ?_, fun i h rest => countsAfter_boundary none h rest,
    fun i _ _ _ low rest => countsAfter_dutyEnd none low rest⟩
  · exact countsAfter_place (p := .probe a) idle law h (expiryEvent_expires h (State.takeSilence a))
      (aheadBut_probe present rest)
  · refine countsAfter_place (p := .zone z (.slot k)) idle law h (exec_slotExpiry_settled none h)
      (aheadBut_zone rest fun x other => ?_)
    cases x with
    | slot j =>
      have elsewhere : j ≠ k := fun same => other (by rw [same])
      simp [ZonePlace.deadline, Zone.slot, Fin.val_ne_iff.mpr (Ne.symm elsewhere)]
    | _ => rfl
  · refine countsAfter_place (p := .zone z .trend) idle law h (expiryEvent_expires h (State.takeTrend z))
      (aheadBut_zone rest fun x other => ?_)
    cases x with
    | trend => exact absurd rfl other
    | _ => rfl
  · refine countsAfter_place (p := .zone z .persistence) idle law h (expiryEvent_expires h (State.takePersistence z))
      (aheadBut_zone rest fun x other => ?_)
    cases x with
    | persistence => exact absurd rfl other
    | _ => rfl
  · refine countsAfter_place (p := .zone z .blind) idle law h (expiryEvent_expires h (State.takeBlind z))
      (aheadBut_zone rest fun x other => ?_)
    cases x with
    | blind => exact absurd rfl other
    | _ => rfl
  · exact countsAfter_place (p := .input i) idle law h (expiryEvent_expires h (State.takeQualification i))
      (aheadBut_input rest)

end Sys2Proof.Machine
